-- ==== Sys2Proof/Word.lean ====
section
/-! DEFINITION. The units every file uses: the byte of the wire and of the buffers (20_memory.md R60 to R64) and
the 2-bit packet number (41_sequencing_chaining_counters.md R150). -/

namespace Sys2Proof

/-- One byte: bits 7 (most significant) down to 0 (00_scope.md R14). Decision D34 errs "neither". -/
abbrev Byte := BitVec 8

/-- A packet number PNI: a 2-bit unsigned number (R150). Decision D41 errs "neither". -/
abbrev Pni := BitVec 2

end Sys2Proof
end

