-- ==== Sys2Proof/Config.lean ====
section
/-! DEFINITION. What an implementation fixes: the constants of 00_scope.md R12, the parameters of R13, and the three
values the spec leaves OPEN, which are opaque so that no proof can see them. -/

namespace Sys2Proof.Config

/-- `ATR_RETRY_MAX` (R12): two retries, three attempts. -/
abbrev atrRetryMax : Nat := 2
/-- `NACK_RETRY_MAX` (R12). -/
abbrev nackRetryMax : Nat := 3
/-- `ATN_RETRY_MAX` (R12). -/
abbrev atnRetryMax : Nat := 3
/-- `TO_RETRY_MAX` (R12). -/
abbrev toRetryMax : Nat := 3
/-- `RTOX_RETRY_MAX` (R12): "capped at 10 consecutive uses per cycle". -/
abbrev rtoxRetryMax : Nat := 10
/-- `RTOX_MIN` (R12). -/
abbrev rtoxMin : Nat := 1
/-- `RTOX_MAX` (R12). -/
abbrev rtoxMax : Nat := 59
/-- `LEN_MIN` (R12). -/
abbrev lenMin : Nat := 3
/-- `LEN_MAX` (R12). -/
abbrev lenMax : Nat := 255
/-- `GB_MAX` (R12). Decision D6 errs "toward proving for a 48-byte GB in ATR_RES (`91_not_in_source.md` N6)". -/
abbrev gbMax : Nat := 48
/-- `FS_MIN` (R12): "frame_size is always >= 64". Decision D4 errs "toward proving for lr 0..2". -/
abbrev fsMin : Nat := 64
/-- `CMD_TYPE_REQ` (R12). -/
abbrev cmdTypeReq : Byte := 0xD4
/-- `CMD_TYPE_RES` (R12). -/
abbrev cmdTypeRes : Byte := 0xD5
/-- The length of an NFCID3 (10_state.md R33). Decision D6 errs "toward proving for a 48-byte GB in ATR_RES
(`91_not_in_source.md` N6)". -/
abbrev nfcid3Len : Nat := 10

/-- `SHORT_TXERR_POLICY` (R13). Decision D11 errs "toward unprovable (more NACKs, earlier Framing error)". -/
inductive ShortTxerrPolicy where
  | recover
  | ignore
  deriving DecidableEq, Repr

/-- `BRS_DIR` (R13): which way the DSI rate runs. Decision D7 errs "`BRS_DIR`: either way, low confidence; named
parameter". -/
inductive BrsDir where
  /-- `DSI = Initiator→Target`, the default. -/
  | dsiInitiatorToTarget
  /-- `DSI = Target→Initiator`. -/
  | dsiTargetToInitiator
  deriving DecidableEq, Repr

/-- The parameters a step takes (R13). No step writes them (log 3). -/
structure Params where
  /-- `TX_RETRY_MAX`. Decision D9 errs "toward unprovable (fewer retries means more errors)". -/
  txRetryMax : Nat := 3
  /-- `PSL_RETRY_MAX`. Decision D9 errs "toward unprovable (fewer retries means more errors)". -/
  pslRetryMax : Nat := 0
  /-- `DID_MAX`. Decision D35 errs "toward unprovable". -/
  didMax : Nat := 14
  /-- `SHORT_TXERR_POLICY`. Decision D11 errs "toward unprovable (more NACKs, earlier Framing error)". -/
  shortTxerrPolicy : ShortTxerrPolicy := .recover
  /-- `MIN_TXERR_LEN`, read only under `Ignore`. Decision D11 errs "toward unprovable (more NACKs, earlier Framing
  error)". -/
  minTxerrLen : Nat := 4
  /-- `WT_INI_MAX`. Decision D26 errs "neither (opaque)". -/
  wtIniMax : Nat := 14
  /-- `WT_TRG_MAX`. Decision D26 errs "neither (opaque)". -/
  wtTrgMax : Nat := 14
  /-- `DELTA_FWT`, OPEN. Decision D26 errs "neither (opaque)". -/
  deltaFwt : Nat
  /-- `TX_CAP`, OPEN, at least 1. Decision D23 errs "toward unprovable". -/
  txCap : Nat
  /-- `RX_CAP`, OPEN, at least 1. Decision D23 errs "toward unprovable". -/
  rxCap : Nat
  /-- `BRS_DIR`. Decision D7 errs "`BRS_DIR`: either way, low confidence; named parameter". -/
  brsDir : BrsDir := .dsiInitiatorToTarget
  /-- `PSL_DID_ALWAYS`. Decision D7 errs "`BRS_DIR`: either way, low confidence; named parameter". -/
  pslDidAlways : Bool := true
  deriving DecidableEq, Repr

/-- `DELTA_FWT` of this machine: OPEN (R13), so it has no body. Decision D26 errs "neither (opaque)". -/
opaque deltaFwt : Nat
/-- `TX_CAP − 1` of this machine: OPEN (R13). Decision D23 errs "toward unprovable". -/
opaque txCapLess1 : Nat
/-- `RX_CAP − 1` of this machine: OPEN (R13). Decision D23 errs "toward unprovable". -/
opaque rxCapLess1 : Nat

/-- The parameters of this machine: the decided defaults of R13, and the OPEN values (log 3). Decisions: D23 errs
"toward unprovable"; D26 errs "neither (opaque)". -/
def params : Params :=
  { deltaFwt := deltaFwt, txCap := 1 + txCapLess1, rxCap := 1 + rxCapLess1 }

end Sys2Proof.Config
end

