-- ==== Sys2Proof/Syntax.lean ====
section
/-! DEFINITION. The instruction set: the eighteen frame encodings of 30_encoding.md R114, one constructor per row of
spec/opcode_table.json. A constructor keeps every bit of its frame but LEN, CMD_TYPE, CMD and the PFB bits that its
other fields determine; reserved bits and bytes that no rule reads are kept too, so a frame can be written back (R208
queues one as bytes). -/

namespace Sys2Proof

/-- An NFC-DEP frame. `did` and `nad` are `none` where the frame carries no such byte. `trail` is what follows the
last defined field: "bytes after the header are ignored" (R88 to R90). `low` is the PNI field of an S-PDU, "written 0
and ignored on receipt" (R84). Decisions: D3 errs "toward proving if the firmware deviates; low risk"; D30 errs
"toward proving (a stricter peer would reject)"; D34 errs "neither". -/
inductive Instr where
  /-- ATR_REQ (R91): NFCID3i, DIDi, BSi, BRi, PPi, Gi. Decision D6 errs "toward proving for a 48-byte GB in ATR_RES
  (`91_not_in_source.md` N6)". -/
  | atrReq (nfcid3 : List Byte) (did bs br pp : Byte) (gb : List Byte)
  /-- ATR_RES (R92): NFCID3t, DIDt, BSt, BRt, TO, PPt, Gt. Decision D6 errs "toward proving for a 48-byte GB in
  ATR_RES (`91_not_in_source.md` N6)". -/
  | atrRes (nfcid3 : List Byte) (did bs br tob pp : Byte) (gb : List Byte)
  /-- PSL_REQ (R96): DID (absent only where `PSL_DID_ALWAYS` is false), BRS, FSL. Decision D7 errs "`BRS_DIR`: either
  way, low confidence; named parameter". -/
  | pslReq (did : Option Byte) (brs fsl : Byte)
  /-- PSL_RES (R98): `body` is what follows CMD, the DID byte where one is due and then the bytes that are ignored
  (log 12). Decisions: D7 errs "`BRS_DIR`: either way, low confidence; named parameter"; D30 errs "toward proving (a
  stricter peer would reject)". -/
  | pslRes (body : List Byte)
  /-- DEP_REQ.I (R87). -/
  | depReqI (mi : Bool) (pni : Pni) (did nad : Option Byte) (inf : List Byte)
  /-- DEP_REQ.ACK (R88). -/
  | depReqAck (pni : Pni) (did nad : Option Byte) (trail : List Byte)
  /-- DEP_REQ.NACK (R88). -/
  | depReqNack (pni : Pni) (did nad : Option Byte) (trail : List Byte)
  /-- DEP_REQ.ATN (R89). -/
  | depReqAtn (low : Pni) (did nad : Option Byte) (trail : List Byte)
  /-- DEP_REQ.RTOX (R90): the Initiator's grant of `v`. -/
  | depReqRtox (low : Pni) (did nad : Option Byte) (v : Byte) (trail : List Byte)
  /-- DEP_RES.I (R87). -/
  | depResI (mi : Bool) (pni : Pni) (did nad : Option Byte) (inf : List Byte)
  /-- DEP_RES.ACK (R88). -/
  | depResAck (pni : Pni) (did nad : Option Byte) (trail : List Byte)
  /-- DEP_RES.NACK (R88). -/
  | depResNack (pni : Pni) (did nad : Option Byte) (trail : List Byte)
  /-- DEP_RES.ATN (R89). -/
  | depResAtn (low : Pni) (did nad : Option Byte) (trail : List Byte)
  /-- DEP_RES.RTOX (R90): the Target's request of `v`. -/
  | depResRtox (low : Pni) (did nad : Option Byte) (v : Byte) (trail : List Byte)
  /-- DSL_REQ (R99). -/
  | dslReq (did : Option Byte) (trail : List Byte)
  /-- DSL_RES (R99). -/
  | dslRes (did : Option Byte) (trail : List Byte)
  /-- RLS_REQ (R99). -/
  | rlsReq (did : Option Byte) (trail : List Byte)
  /-- RLS_RES (R99). -/
  | rlsRes (did : Option Byte) (trail : List Byte)
  deriving DecidableEq, Repr

end Sys2Proof
end

