-- ==== Sys2Proof/WellFormed.lean ====
section
/-! DEFINITION. Which terms of `Instr` are frames: the fixed lengths of 30_encoding.md and the length bound that one LEN
byte sets. -/

namespace Sys2Proof

/-- The number of bytes an optional header byte takes. -/
def optCount (b : Option Byte) : Nat := if b.isSome then 1 else 0

/-- The number of bytes after LEN, CMD_TYPE and CMD (R80). -/
def Instr.bodyLength : Instr → Nat
  | .atrReq nfcid3 _ _ _ _ gb => nfcid3.length + 4 + gb.length
  | .atrRes nfcid3 _ _ _ _ _ gb => nfcid3.length + 5 + gb.length
  | .pslReq did _ _ => optCount did + 2
  | .pslRes body => body.length
  | .depReqI _ _ did nad inf => 1 + optCount did + optCount nad + inf.length
  | .depReqAck _ did nad trail => 1 + optCount did + optCount nad + trail.length
  | .depReqNack _ did nad trail => 1 + optCount did + optCount nad + trail.length
  | .depReqAtn _ did nad trail => 1 + optCount did + optCount nad + trail.length
  | .depReqRtox _ did nad _ trail => 2 + optCount did + optCount nad + trail.length
  | .depResI _ _ did nad inf => 1 + optCount did + optCount nad + inf.length
  | .depResAck _ did nad trail => 1 + optCount did + optCount nad + trail.length
  | .depResNack _ did nad trail => 1 + optCount did + optCount nad + trail.length
  | .depResAtn _ did nad trail => 1 + optCount did + optCount nad + trail.length
  | .depResRtox _ did nad _ trail => 2 + optCount did + optCount nad + trail.length
  | .dslReq did trail => optCount did + trail.length
  | .dslRes did trail => optCount did + trail.length
  | .rlsReq did trail => optCount did + trail.length
  | .rlsRes did trail => optCount did + trail.length

/-- LEN counts the whole frame and is at most 255 (R81). -/
def Instr.lengthOk (i : Instr) : Bool := Config.lenMin + i.bodyLength ≤ Config.lenMax

/-- The fixed lengths: a 10-byte NFCID3 and 0 to 48 General Bytes (R91, R92), and in DSL and RLS no byte after an absent
DID byte, since the DID is "present" exactly when `LEN ≥ 4` (40_codec.md R136). Decisions: D6 errs "toward proving for
a 48-byte GB in ATR_RES (`91_not_in_source.md` N6)"; D30 errs "toward proving (a stricter peer would reject)". -/
def Instr.shapeOk : Instr → Bool
  | .atrReq nfcid3 _ _ _ _ gb => nfcid3.length == Config.nfcid3Len && gb.length ≤ Config.gbMax
  | .atrRes nfcid3 _ _ _ _ _ gb => nfcid3.length == Config.nfcid3Len && gb.length ≤ Config.gbMax
  | .pslReq _ _ _ => true
  | .pslRes _ => true
  | .depReqI _ _ _ _ _ => true
  | .depReqAck _ _ _ _ => true
  | .depReqNack _ _ _ _ => true
  | .depReqAtn _ _ _ _ => true
  | .depReqRtox _ _ _ _ _ => true
  | .depResI _ _ _ _ _ => true
  | .depResAck _ _ _ _ => true
  | .depResNack _ _ _ _ => true
  | .depResAtn _ _ _ _ => true
  | .depResRtox _ _ _ _ _ => true
  | .dslReq did trail => did.isSome || trail.isEmpty
  | .dslRes did trail => did.isSome || trail.isEmpty
  | .rlsReq did trail => did.isSome || trail.isEmpty
  | .rlsRes did trail => did.isSome || trail.isEmpty

/-- A well-formed instruction: one that a frame on the wire can be. -/
def Instr.wf (i : Instr) : Bool := i.lengthOk && i.shapeOk

end Sys2Proof
end

