-- ==== Sys2Proof/Decode.lean ====
section
/-! DEFINITION. The frame codec as far as it needs no session: from bytes to an instruction or a named rejection, and
back. 40_codec.md R121 decodes against a session (the expected command set, `did`, `nad`); the model reads the frame by
its own PFB bits here and checks it against the session in the meanings (log 10). -/

namespace Sys2Proof

/-- The ten (CMD_TYPE, CMD) pairs of 30_encoding.md R83. -/
inductive FrameKind where
  | atrReq | atrRes | pslReq | pslRes | depReq | depRes | dslReq | dslRes | rlsReq | rlsRes
  deriving DecidableEq, Repr

/-- The CMD_TYPE and CMD bytes of a frame kind (R83). -/
def kindBytes : FrameKind → Byte × Byte
  | .atrReq => (0xD4, 0x00)
  | .atrRes => (0xD5, 0x01)
  | .pslReq => (0xD4, 0x04)
  | .pslRes => (0xD5, 0x05)
  | .depReq => (0xD4, 0x06)
  | .depRes => (0xD5, 0x07)
  | .dslReq => (0xD4, 0x08)
  | .dslRes => (0xD5, 0x09)
  | .rlsReq => (0xD4, 0x0A)
  | .rlsRes => (0xD5, 0x0B)

/-- Every frame kind, in the order of R83. -/
def allKinds : List FrameKind :=
  [.atrReq, .atrRes, .pslReq, .pslRes, .depReq, .depRes, .dslReq, .dslRes, .rlsReq, .rlsRes]

/-- The kind a CMD_TYPE and a CMD byte name; `none` for every reserved pair (R106, R107). Decision D29 errs "neither".
-/
def kindOf (t c : Byte) : Option FrameKind := allKinds.find? fun k => kindBytes k == (t, c)

/-- Why bytes are no instruction. -/
inductive Reject where
  /-- `|bytes| < 3`, `|bytes| > 255` or LEN differs from the number of bytes received (R105): "a transmission error". -/
  | malformed
  /-- CMD_TYPE and CMD are no pair of R83 (R106, R107). -/
  | unknownCommand
  /-- An ATR frame shorter than its fixed part (R125, R127). -/
  | atrTooShort
  /-- An ATR frame with more than 48 General Bytes (R125, R127). -/
  | tooManyGeneralBytes
  /-- A PSL_REQ of a length it cannot have (R129). -/
  | pslLength
  /-- A DEP frame with no PFB (R133). -/
  | noPfb
  /-- A DEP frame whose PFB class is Reserved (R108). -/
  | reservedPfb
  /-- A DEP frame that ends before the DID or NAD byte its PFB announces (R133). -/
  | headerTooShort
  /-- An S-RTOX frame with no value byte (R90, R133). -/
  | noRtoxValue
  deriving DecidableEq, Repr

/-- The class of a DEP PDU, with the MI bit of an I-PDU (R84, R85; R134's Information, Receipt, Supervisory). Decision
D3 errs "toward proving if the firmware deviates; low risk". -/
inductive DepKind where
  | info (mi : Bool)
  | ack
  | nack
  | atn
  | rtox
  deriving DecidableEq, Repr

/-- The high four bits of a class's PFB (R85). Decision D3 errs "toward proving if the firmware deviates; low
risk". -/
def classNibble : DepKind → BitVec 4
  | .info false => 0x0
  | .info true => 0x1
  | .ack => 0x4
  | .nack => 0x5
  | .atn => 0x8
  | .rtox => 0x9

/-- The class of a PFB, read from `pfb & 0xF0`; `none` is Reserved (R85, R108). Decision D3 errs "toward proving if
the firmware deviates; low risk". -/
def pfbClass (pfb : Byte) : Option DepKind :=
  [DepKind.info false, .info true, .ack, .nack, .atn, .rtox].find? fun k => classNibble k == pfb.extractLsb' 4 4

/-- `has_nad(pfb) = pfb[3]` (R134). Decision D3 errs "toward proving if the firmware deviates; low risk". -/
def pfbHasNad (pfb : Byte) : Bool := pfb.getLsbD 3

/-- `has_did(pfb) = pfb[2]` (R134). Decision D3 errs "toward proving if the firmware deviates; low risk". -/
def pfbHasDid (pfb : Byte) : Bool := pfb.getLsbD 2

/-- `pni_of(pfb) = pfb[1:0]` (R85). Decision D3 errs "toward proving if the firmware deviates; low risk". -/
def pfbPni (pfb : Byte) : Pni := pfb.extractLsb' 0 2

/-- `is_chaining(pfb)`: class I with the MI bit (R134). Decision D3 errs "toward proving if the firmware deviates; low
risk". -/
def pfbIsChaining (pfb : Byte) : Bool := pfbClass pfb == some (.info true)

/-- A PFB from its parts: class, NAD bit, DID bit, PNI (R84, R100). Decision D3 errs "toward proving if the firmware
deviates; low risk". -/
def pfbByte (k : DepKind) (hasNad hasDid : Bool) (pni : Pni) : Byte :=
  classNibble k ++ BitVec.ofBool hasNad ++ BitVec.ofBool hasDid ++ pni

/-- A whole frame: LEN "is computed last, as the count of all bytes of the frame including itself" (R100), then
CMD_TYPE, CMD and the rest (R80). -/
def frameOf (k : FrameKind) (body : List Byte) : List Byte :=
  BitVec.ofNat 8 (3 + body.length) :: (kindBytes k).1 :: (kindBytes k).2 :: body

/-- Take the optional byte that a PFB bit announces. -/
def takeOptional (present : Bool) (bytes : List Byte) : Option (Option Byte × List Byte) :=
  if present then
    match bytes with
    | [] => none
    | b :: rest => some (some b, rest)
  else some (none, bytes)

/-- The header and payload of a DEP frame. -/
structure DepParts where
  pfb : Byte
  kind : DepKind
  did : Option Byte
  nad : Option Byte
  payload : List Byte
  deriving DecidableEq, Repr

/-- Split what follows CMD in a DEP frame: PFB, then the DID and NAD bytes its bits announce, then the payload (R111,
R133). Decisions: D3 errs "toward proving if the firmware deviates; low risk"; D29 errs "neither". -/
def splitDep : List Byte → Except Reject DepParts
  | [] => .error .noPfb
  | pfb :: rest =>
    match pfbClass pfb with
    | none => .error .reservedPfb
    | some kind =>
      match takeOptional (pfbHasDid pfb) rest with
      | none => .error .headerTooShort
      | some (did, rest) =>
        match takeOptional (pfbHasNad pfb) rest with
        | none => .error .headerTooShort
        | some (nad, payload) => .ok { pfb, kind, did, nad, payload }

/-- The DEP_REQ row a PFB class selects (R114). Decision D30 errs "toward proving (a stricter peer would reject)". -/
def depReqOf (p : DepParts) : Except Reject Instr :=
  match p.kind with
  | .info mi => .ok (.depReqI mi (pfbPni p.pfb) p.did p.nad p.payload)
  | .ack => .ok (.depReqAck (pfbPni p.pfb) p.did p.nad p.payload)
  | .nack => .ok (.depReqNack (pfbPni p.pfb) p.did p.nad p.payload)
  | .atn => .ok (.depReqAtn (pfbPni p.pfb) p.did p.nad p.payload)
  | .rtox =>
    match p.payload with
    | [] => .error .noRtoxValue
    | v :: trail => .ok (.depReqRtox (pfbPni p.pfb) p.did p.nad v trail)

/-- The DEP_RES row a PFB class selects (R114). Decision D30 errs "toward proving (a stricter peer would reject)". -/
def depResOf (p : DepParts) : Except Reject Instr :=
  match p.kind with
  | .info mi => .ok (.depResI mi (pfbPni p.pfb) p.did p.nad p.payload)
  | .ack => .ok (.depResAck (pfbPni p.pfb) p.did p.nad p.payload)
  | .nack => .ok (.depResNack (pfbPni p.pfb) p.did p.nad p.payload)
  | .atn => .ok (.depResAtn (pfbPni p.pfb) p.did p.nad p.payload)
  | .rtox =>
    match p.payload with
    | [] => .error .noRtoxValue
    | v :: trail => .ok (.depResRtox (pfbPni p.pfb) p.did p.nad v trail)

/-- The body of an ATR_REQ after CMD (R91, R125): `17 ≤ LEN` and `|GB| = LEN − 17 ≤ 48`. Decision D6 errs "toward
proving for a 48-byte GB in ATR_RES (`91_not_in_source.md` N6)". -/
def decodeAtrReq (body : List Byte) : Except Reject Instr :=
  if body.length < 14 then .error .atrTooShort
  else
    match body.drop Config.nfcid3Len with
    | did :: bs :: br :: pp :: gb =>
      if gb.length ≤ Config.gbMax then .ok (.atrReq (body.take Config.nfcid3Len) did bs br pp gb)
      else .error .tooManyGeneralBytes
    | _ => .error .atrTooShort

/-- The body of an ATR_RES after CMD (R92, R127): `18 ≤ LEN` and `|GB| = LEN − 18 ≤ 48`. Decision D6 errs "toward
proving for a 48-byte GB in ATR_RES (`91_not_in_source.md` N6)". -/
def decodeAtrRes (body : List Byte) : Except Reject Instr :=
  if body.length < 15 then .error .atrTooShort
  else
    match body.drop Config.nfcid3Len with
    | did :: bs :: br :: tob :: pp :: gb =>
      if gb.length ≤ Config.gbMax then .ok (.atrRes (body.take Config.nfcid3Len) did bs br tob pp gb)
      else .error .tooManyGeneralBytes
    | _ => .error .atrTooShort

/-- The body of a PSL_REQ: `DID, BRS, FSL`, or without the DID byte where `PSL_DID_ALWAYS` is false (R96, R129).
Decision D7 errs "`BRS_DIR`: either way, low confidence; named parameter". -/
def decodePslReq : List Byte → Except Reject Instr
  | [brs, fsl] => .ok (.pslReq none brs fsl)
  | [did, brs, fsl] => .ok (.pslReq (some did) brs fsl)
  | _ => .error .pslLength

/-- The body of a DSL or RLS frame: the DID byte is present exactly when `LEN ≥ 4`, and what follows is ignored (R136).
Decision D30 errs "toward proving (a stricter peer would reject)". -/
def splitDid : List Byte → Option Byte × List Byte
  | [] => (none, [])
  | did :: trail => (some did, trail)

/-- The body decoders, by frame kind (R121). Decision D29 errs "neither". -/
def decodeBody (k : FrameKind) (body : List Byte) : Except Reject Instr :=
  match k with
  | .atrReq => decodeAtrReq body
  | .atrRes => decodeAtrRes body
  | .pslReq => decodePslReq body
  | .pslRes => .ok (.pslRes body)
  | .depReq => (splitDep body).bind depReqOf
  | .depRes => (splitDep body).bind depResOf
  | .dslReq => .ok (.dslReq (splitDid body).1 (splitDid body).2)
  | .dslRes => .ok (.dslRes (splitDid body).1 (splitDid body).2)
  | .rlsReq => .ok (.rlsReq (splitDid body).1 (splitDid body).2)
  | .rlsRes => .ok (.rlsRes (splitDid body).1 (splitDid body).2)

/-- A frame whose LEN is right (R81, R105). -/
def lengthAgrees (bytes : List Byte) : Bool :=
  Config.lenMin ≤ bytes.length && bytes.length ≤ Config.lenMax && (bytes.headD 0).toNat == bytes.length

/-- The kind that bytes 1 and 2 of a frame name. -/
def frameKind (bytes : List Byte) : Option FrameKind := kindOf (bytes.getD 1 0) (bytes.getD 2 0)

/-- Decode a frame: "length first, then command, then body" (R121). Decisions: D18 errs "neither"; D29 errs "neither".
-/
def decode (bytes : List Byte) : Except Reject Instr :=
  if lengthAgrees bytes then
    match frameKind bytes with
    | none => .error .unknownCommand
    | some k => decodeBody k (bytes.drop 3)
  else .error .malformed

/-- The body of a DEP frame: PFB, optional DID, optional NAD, payload (R80, R87 to R90). Decision D3 errs "toward
proving if the firmware deviates; low risk". -/
def depBody (k : DepKind) (pni : Pni) (did nad : Option Byte) (payload : List Byte) : List Byte :=
  pfbByte k nad.isSome did.isSome pni :: (did.toList ++ (nad.toList ++ payload))

/-- The bytes of an instruction, in transmission order. Decisions: D3 errs "toward proving if the firmware deviates;
low risk"; D6 errs "toward proving for a 48-byte GB in ATR_RES (`91_not_in_source.md` N6)"; D7 errs "`BRS_DIR`: either
way, low confidence; named parameter". -/
def encode : Instr → List Byte
  | .atrReq nfcid3 did bs br pp gb => frameOf .atrReq (nfcid3 ++ did :: bs :: br :: pp :: gb)
  | .atrRes nfcid3 did bs br tob pp gb => frameOf .atrRes (nfcid3 ++ did :: bs :: br :: tob :: pp :: gb)
  | .pslReq did brs fsl => frameOf .pslReq (did.toList ++ [brs, fsl])
  | .pslRes body => frameOf .pslRes body
  | .depReqI mi pni did nad inf => frameOf .depReq (depBody (.info mi) pni did nad inf)
  | .depReqAck pni did nad trail => frameOf .depReq (depBody .ack pni did nad trail)
  | .depReqNack pni did nad trail => frameOf .depReq (depBody .nack pni did nad trail)
  | .depReqAtn low did nad trail => frameOf .depReq (depBody .atn low did nad trail)
  | .depReqRtox low did nad v trail => frameOf .depReq (depBody .rtox low did nad (v :: trail))
  | .depResI mi pni did nad inf => frameOf .depRes (depBody (.info mi) pni did nad inf)
  | .depResAck pni did nad trail => frameOf .depRes (depBody .ack pni did nad trail)
  | .depResNack pni did nad trail => frameOf .depRes (depBody .nack pni did nad trail)
  | .depResAtn low did nad trail => frameOf .depRes (depBody .atn low did nad trail)
  | .depResRtox low did nad v trail => frameOf .depRes (depBody .rtox low did nad (v :: trail))
  | .dslReq did trail => frameOf .dslReq (did.toList ++ trail)
  | .dslRes did trail => frameOf .dslRes (did.toList ++ trail)
  | .rlsReq did trail => frameOf .rlsReq (did.toList ++ trail)
  | .rlsRes did trail => frameOf .rlsRes (did.toList ++ trail)

/-- Byte `n` of a number, byte 0 the least significant. -/
def byteOfNat (w n : Nat) : Byte := BitVec.ofNat 8 (w / 256 ^ n)

/-- The zero operand bytes that follow what the table gives a row, up to the shortest frame the row has (log 7). -/
def zeroOperands (k : FrameKind) (pfb : Byte) : List Byte :=
  match k with
  | .atrReq => List.replicate 14 0
  | .atrRes => List.replicate 15 0
  | .pslReq => [0, 0, 0]
  | .pslRes => [0]
  | .depReq | .depRes =>
    List.replicate ((if pfbHasDid pfb then 1 else 0) + (if pfbHasNad pfb then 1 else 0) +
      (if pfbClass pfb = some .rtox then 1 else 0)) 0
  | .dslReq | .dslRes | .rlsReq | .rlsRes => []

/-- The frame a table word stands for. The table numbers a 16-bit word `CMD_TYPE·2^8 + CMD` and a 24-bit word
`CMD_TYPE·2^16 + CMD·2^8 + PFB` (R114), and gives LEN no bits; LEN is computed (log 7). -/
def frameOfTableWord (nbits w : Nat) : List Byte :=
  let t := byteOfNat w (nbits / 8 - 1)
  let c := byteOfNat w (nbits / 8 - 2)
  let pfb := if 24 ≤ nbits then [byteOfNat w (nbits / 8 - 3)] else []
  match kindOf t c with
  | none => BitVec.ofNat 8 (3 + pfb.length) :: t :: c :: pfb
  | some k => frameOf k (pfb ++ zeroOperands k (pfb.headD 0))

/-- The instruction the decoder reads from an opcode-table word. -/
def decodeTableWord (nbits w : Nat) : Option Instr :=
  match decode (frameOfTableWord nbits w) with
  | .ok i => some i
  | .error _ => none

end Sys2Proof
end

