-- ==== Sys2Proof/Machine/Io.lean ====
section
/-! DEFINITION. What crosses the boundary of the block: inputs, host commands, actions, errors and statuses
(00_scope.md R7 to R11, 60_exceptions.md R320), as data. -/

namespace Sys2Proof.Machine

/-- `S.role` (10_state.md R25). Decision D31 errs "neither". -/
inductive Role where
  | initiator
  | target
  deriving DecidableEq, Repr

/-- `S.comm_mode` (R26). Decision D36 errs "neither". -/
inductive CommMode where
  | passive
  | active
  deriving DecidableEq, Repr

/-- The values of `S.st` (R21). Decision D2 errs "toward unprovable". -/
inductive St where
  | idle
  | iSendAtr
  | iAwaitAtrRes
  | iSendPsl
  | iAwaitPslRes
  | iActive
  | iDepTx
  | iDepRx
  | iSendDsl
  | iAwaitDslRes
  | iSendRls
  | iAwaitRlsRes
  | tWaitAtr
  | tSendAtrRes
  | tWaitActCompletion
  | tDepRx
  | tRespPending
  | tAwaitRtoxRes
  | tDepTx
  | tSleep
  deriving DecidableEq, Repr

/-- A deadline handed to the RF port: an opaque number of link-layer units, or none (R9, R164). Decisions: D1 errs
"toward unprovable (the environment is unconstrained beyond rule R366)"; D14 errs "neither (opaque to the model)". -/
inductive Deadline where
  | noDeadline
  | within (units : Nat)
  deriving DecidableEq, Repr

/-- The kinds of transmission error (R18). -/
inductive TxErr where
  | crc
  | parity
  | framing
  | collision
  deriving DecidableEq, Repr

/-- Why a transceive failed (R8). Decision D1 errs "toward unprovable (the environment is unconstrained beyond rule
R366)". -/
inductive RfErr where
  | timeout
  | linkLoss
  | transmission (k : TxErr)
  deriving DecidableEq, Repr

/-- The result of an RF action (R8); `n` is the number of bytes received before the error. Decisions: D1 errs "toward
unprovable (the environment is unconstrained beyond rule R366)"; D11 errs "toward unprovable (more NACKs, earlier
Framing error)". -/
inductive RfResult where
  | ok (bytes : List Byte)
  | err (e : RfErr) (n : Nat)
  deriving DecidableEq, Repr

/-- The configuration surface of an activation command (R10, R180). Operands with a range check of their own in R180
or R200 are unbounded numbers here; the others have the width of the register they go to (log 15). Decision D21 errs
"toward unprovable". -/
structure HostConfig where
  role : Role
  commMode : CommMode
  did : Byte
  nad : Byte
  lr : Nat
  bitrateSend : BitVec 3
  bitrateRecv : BitVec 3
  generalBytes : List Byte
  operationFlags : BitVec 4
  deriving DecidableEq, Repr

/-- `AtrParam`: the pre-activated peer descriptor (R180). Decisions: D21 errs "toward unprovable"; D24 errs "neither".
-/
structure AtrParam where
  nfcid : List Byte
  brMask : Byte
  gb : List Byte
  deriving DecidableEq, Repr

/-- The operands `TARG_LISTEN` takes beyond the configuration surface (R200). Decision D21 errs "toward
unprovable". -/
structure ListenParam where
  wt : Nat
  nfcid : List Byte
  brMask : Byte
  deriving DecidableEq, Repr

/-- Host commands (R10). Decision D21 errs "toward unprovable". -/
inductive Cmd where
  | initActivate (cfg : HostConfig) (atr : AtrParam) (desiredBr : Nat)
  | targListen (cfg : HostConfig) (listen : ListenParam)
  | exchange (data : List Byte)
  | deselect
  | release
  deriving DecidableEq, Repr

/-- The input of a step (R7). Decisions: D1 errs "toward unprovable (the environment is unconstrained beyond rule
R366)"; D40 errs "toward unprovable". -/
inductive Input where
  | poll
  | cmd (c : Cmd)
  | rf (r : RfResult)
  | timerExpired
  deriving DecidableEq, Repr

/-- One input with the level `deact_pending` sampled with it (R7, R366). Decisions: D1 errs "toward unprovable (the
environment is unconstrained beyond rule R366)"; D40 errs "toward unprovable". -/
structure StepInput where
  input : Input
  deactPending : Bool := false
  deriving DecidableEq, Repr

/-- Actions a step emits (R9). Decision D1 errs "toward unprovable (the environment is unconstrained beyond rule
R366)". -/
inductive Action where
  | rfTxRx (bytes : List Byte) (d : Deadline)
  | rfRx (d : Deadline)
  | timerStart (units : Nat)
  | timerStop
  | setBitRate (send recv : BitVec 3)
  | updateDeviceRecord (fs : Nat) (send recv : BitVec 3)
  deriving DecidableEq, Repr

/-- The error taxonomy (R320). Decision D20 errs "neither". -/
inductive Err where
  | timeout
  | transmission (k : TxErr)
  | protocolError
  | linkLoss
  | wrongState
  | badParam
  | bufferOverflow
  deriving DecidableEq, Repr

/-- The status a step returns (R11, R320). Decisions: D1 errs "toward unprovable (the environment is unconstrained
beyond rule R366)"; D20 errs "neither"; D38 errs "neither". -/
inductive Status where
  | idle
  | inProgress
  | chainingContinue
  | done
  | deselected
  | released
  | err (e : Err)
  deriving DecidableEq, Repr

/-- The phases of R23. Decision D33 errs "neither". -/
inductive Phase where
  | idle
  | transmitting
  | awaitingResponse
  | awaitingNextChainedBlock
  deriving DecidableEq, Repr

/-- The seven retry counters (R37, R38), by name. Decision D9 errs "toward unprovable (fewer retries means more
errors)". -/
inductive Counter where
  | tx
  | timeout
  | rtox
  | nack
  | atn
  | atr
  | psl
  deriving DecidableEq, Repr

end Sys2Proof.Machine
end

