-- ==== Sys2Proof/Machine/State.lean ====
section
/-! DEFINITION. The state: every register of the spec's record S (10_state.md), flat, under the spec's names, and the
four fields that carry what a step takes and returns (parameters, pending inputs, actions, status). -/

namespace Sys2Proof.Machine

/-- Why the machine stops. -/
inductive Fault where
  /-- Raised by `nextBlock` (states `I_DEP_TX`, `T_DEP_TX`) where it would read a byte of `tx_buf` that nothing has
  written. Safe: "MemRead(tx_buf, off, n) is issued only with off + n ≤ tx_len" (20_memory.md R66), so no state a run
  reaches raises it (log 4). -/
  | unwrittenTxBufByte
  deriving DecidableEq, Repr

/-- Why an instruction has no meaning. -/
inductive Refusal where
  /-- Raised by `exec` for an instruction that has no meaning yet; no arm does. Safe. -/
  | notModelled (mnemonic : String)
  deriving DecidableEq, Repr

/-- One byte-addressed buffer space (20_memory.md R61, R62): cells with strictly rising offsets. An offset that no cell
lists holds no value (log 4). -/
abbrev Memory := List Host.Cell

/-- The record S of 10_state.md, with what a step takes and returns. Decision D41 errs "neither". -/
structure State where
  /-- The parameters of a step (00_scope.md R13, 10_state.md R44); written by nothing (log 3). -/
  params : Config.Params
  /-- Inputs the environment has presented and no step has consumed, oldest first (log 1). Decisions: D1 errs "toward
  unprovable (the environment is unconstrained beyond rule R366)"; D40 errs "toward unprovable". -/
  inputs : List StepInput
  /-- The actions of the last step, in list order (R9, log 2). Decision D32 errs "neither". -/
  actions : List Action
  /-- The status of the last step (R11, log 2). Decision D1 errs "toward unprovable (the environment is unconstrained
  beyond rule R366)". -/
  status : Status
  /-- R20, R21. Decision D2 errs "toward unprovable". -/
  st : St
  /-- R24. -/
  cfgValid : Bool
  /-- R25. Decision D31 errs "neither". -/
  role : Role
  /-- R26. Decision D36 errs "neither". -/
  commMode : CommMode
  /-- R27. Decision D35 errs "toward unprovable". -/
  did : Byte
  /-- R28. -/
  nad : Byte
  /-- R29. Decision D25 errs "toward unprovable (PSL happens less often)". -/
  bitrateSend : BitVec 3
  /-- R29. Decision D25 errs "toward unprovable (PSL happens less often)". -/
  bitrateRecv : BitVec 3
  /-- R30. Decision D4 errs "toward proving for lr 0..2". -/
  lr : BitVec 2
  /-- R31. Decision D26 errs "neither (opaque)". -/
  wt : BitVec 4
  /-- R32. Decision D13 errs "toward unprovable". -/
  oper : BitVec 4
  /-- R33, ten bytes. Decision D6 errs "toward proving for a 48-byte GB in ATR_RES (`91_not_in_source.md` N6)". -/
  nfcid3Local : List Byte
  /-- R33, ten bytes. Decision D6 errs "toward proving for a 48-byte GB in ATR_RES (`91_not_in_source.md` N6)". -/
  nfcid3Peer : List Byte
  /-- R33, at most 48 bytes. Decision D6 errs "toward proving for a 48-byte GB in ATR_RES (`91_not_in_source.md`
  N6)". -/
  gbLocal : List Byte
  /-- R33, at most 48 bytes. Decision D6 errs "toward proving for a 48-byte GB in ATR_RES (`91_not_in_source.md`
  N6)". -/
  gbPeer : List Byte
  /-- R33. Decision D6 errs "toward proving for a 48-byte GB in ATR_RES (`91_not_in_source.md` N6)". -/
  ownBs : BitVec 4
  /-- R33. Decision D6 errs "toward proving for a 48-byte GB in ATR_RES (`91_not_in_source.md` N6)". -/
  ownBr : BitVec 4
  /-- R33. Decision D6 errs "toward proving for a 48-byte GB in ATR_RES (`91_not_in_source.md` N6)". -/
  peerBs : BitVec 4
  /-- R33. Decision D6 errs "toward proving for a 48-byte GB in ATR_RES (`91_not_in_source.md` N6)". -/
  peerBr : BitVec 4
  /-- R33. Decision D6 errs "toward proving for a 48-byte GB in ATR_RES (`91_not_in_source.md` N6)". -/
  peerLr : BitVec 2
  /-- R33. Decision D6 errs "toward proving for a 48-byte GB in ATR_RES (`91_not_in_source.md` N6)". -/
  peerNadUsed : Bool
  /-- R33. Decisions: D6 errs "toward proving for a 48-byte GB in ATR_RES (`91_not_in_source.md` N6)"; D25 errs
  "toward unprovable (PSL happens less often)". -/
  desiredBr : BitVec 3
  /-- R34. Decision D22 errs "neither". -/
  pni : Pni
  /-- R35. -/
  txChaining : Bool
  /-- R35. -/
  rxChaining : Bool
  /-- R36; `none` is the register with its valid bit clear. Decision D17 errs "neither". -/
  lastPfb : Option Byte
  /-- R36; `none` is the register with its valid bit clear. Decision D17 errs "neither". -/
  lastPfbExcludingAtn : Option Byte
  /-- R36. -/
  lastRtoxValue : Byte
  /-- R37. -/
  txRetries : Nat
  /-- R37. -/
  timeoutRetries : Nat
  /-- R37. -/
  rtoxRetries : Nat
  /-- R37. -/
  nackRetries : Nat
  /-- R37. -/
  atnRetries : Nat
  /-- R38. Decision D9 errs "toward unprovable (fewer retries means more errors)". -/
  atrRetries : Nat
  /-- R38. Decision D9 errs "toward unprovable (fewer retries means more errors)". -/
  pslRetries : Nat
  /-- R39, R61. Decision D23 errs "toward unprovable". -/
  txBuf : Memory
  /-- R39. Decision D23 errs "toward unprovable". -/
  txLen : Nat
  /-- R39. Decision D23 errs "toward unprovable". -/
  txOff : Nat
  /-- R39, R62. Decision D23 errs "toward unprovable". -/
  rxAcc : Memory
  /-- R39. Decision D23 errs "toward unprovable". -/
  rxLen : Nat
  /-- R40; length 0 is none. Decision D17 errs "neither". -/
  lastFrame : List Byte
  /-- R40. Decision D17 errs "neither". -/
  lastDeadline : Deadline
  /-- R41; length 0 is none. -/
  pendingReq : List Byte
  /-- R42. Decision D15 errs "toward proving for properties of the Target's reactions; revisit first". -/
  txPending : Bool
  deriving DecidableEq, Repr

/-- Power-on reset (70_reset_and_hazards.md R360): every register at the value of 10_state.md R46. `lastDeadline` is not
in R46 (log 5). Decisions: D22 errs "neither"; D31 errs "neither". -/
def State.reset : State where
  params := Config.params
  inputs := []
  actions := []
  status := .idle
  st := .idle
  cfgValid := false
  role := .initiator
  commMode := .passive
  did := 0
  nad := 0
  bitrateSend := 0
  bitrateRecv := 0
  lr := 0
  wt := 0
  oper := 0
  nfcid3Local := List.replicate 10 0
  nfcid3Peer := List.replicate 10 0
  gbLocal := []
  gbPeer := []
  ownBs := 0
  ownBr := 0
  peerBs := 0
  peerBr := 0
  peerLr := 0
  peerNadUsed := false
  desiredBr := 0
  pni := 0
  txChaining := false
  rxChaining := false
  lastPfb := none
  lastPfbExcludingAtn := none
  lastRtoxValue := 0
  txRetries := 0
  timeoutRetries := 0
  rtoxRetries := 0
  nackRetries := 0
  atnRetries := 0
  atrRetries := 0
  pslRetries := 0
  txBuf := []
  txLen := 0
  txOff := 0
  rxAcc := []
  rxLen := 0
  lastFrame := []
  lastDeadline := .noDeadline
  pendingReq := []
  txPending := false

/-- What a step or a part of one answers. -/
abbrev Result := Host.Outcome State Fault Refusal

end Sys2Proof.Machine
end

