-- ==== Sys2Proof/Machine/Flags.lean ====
section
/-! DEFINITION. The single-bit and classifying functions of state: `operation_flags` (10_state.md R32), the classes of
`st` (R21, R22), the phase (R23) and the numeric codes (R21, 60_exceptions.md R320). -/

namespace Sys2Proof.Machine

/-- `EMPTY_EN`, bit 0 of `oper` (R32). Decision D13 errs "toward unprovable". -/
def emptyEn (s : State) : Bool := s.oper.getLsbD 0

/-- `ATN_EN`, bit 1 of `oper` (R32). Decision D13 errs "toward unprovable". -/
def atnEn (s : State) : Bool := s.oper.getLsbD 1

/-- `RTOX_REQ_EN`, bit 2 of `oper` (R32). Decision D13 errs "toward unprovable". -/
def rtoxReqEn (s : State) : Bool := s.oper.getLsbD 2

/-- `FULL_MI_EN`, bit 3 of `oper` (R32): "stored, read by nothing". Decision D13 errs "toward unprovable". -/
def fullMiEn (s : State) : Bool := s.oper.getLsbD 3

/-- The code of a state (R21). Decision D2 errs "toward unprovable". -/
def stCode : St → Nat
  | .idle => 0
  | .iSendAtr => 1
  | .iAwaitAtrRes => 2
  | .iSendPsl => 3
  | .iAwaitPslRes => 4
  | .iActive => 5
  | .iDepTx => 6
  | .iDepRx => 7
  | .iSendDsl => 8
  | .iAwaitDslRes => 9
  | .iSendRls => 10
  | .iAwaitRlsRes => 11
  | .tWaitAtr => 12
  | .tSendAtrRes => 13
  | .tWaitActCompletion => 14
  | .tDepRx => 15
  | .tRespPending => 16
  | .tAwaitRtoxRes => 17
  | .tDepTx => 18
  | .tSleep => 19

/-- The `I_` states (R21). Decision D2 errs "toward unprovable". -/
def isInitiatorSt : St → Bool
  | .iSendAtr | .iAwaitAtrRes | .iSendPsl | .iAwaitPslRes | .iActive | .iDepTx | .iDepRx
  | .iSendDsl | .iAwaitDslRes | .iSendRls | .iAwaitRlsRes => true
  | .idle | .tWaitAtr | .tSendAtrRes | .tWaitActCompletion | .tDepRx | .tRespPending
  | .tAwaitRtoxRes | .tDepTx | .tSleep => false

/-- The `T_` states (R21). Decision D2 errs "toward unprovable". -/
def isTargetSt : St → Bool
  | .tWaitAtr | .tSendAtrRes | .tWaitActCompletion | .tDepRx | .tRespPending
  | .tAwaitRtoxRes | .tDepTx | .tSleep => true
  | .idle | .iSendAtr | .iAwaitAtrRes | .iSendPsl | .iAwaitPslRes | .iActive | .iDepTx | .iDepRx
  | .iSendDsl | .iAwaitDslRes | .iSendRls | .iAwaitRlsRes => false

/-- The states that wait for `Rf` (R21). Decision D2 errs "toward unprovable". -/
def waitsForRf : St → Bool
  | .iAwaitAtrRes | .iAwaitPslRes | .iDepRx | .iAwaitDslRes | .iAwaitRlsRes
  | .tWaitAtr | .tWaitActCompletion | .tDepRx | .tAwaitRtoxRes => true
  | .idle | .iSendAtr | .iSendPsl | .iActive | .iDepTx | .iSendDsl | .iSendRls
  | .tSendAtrRes | .tRespPending | .tDepTx | .tSleep => false

/-- The "next step" states (R21). Decision D2 errs "toward unprovable". -/
def isSendSt : St → Bool
  | .iSendAtr | .iSendPsl | .iDepTx | .iSendDsl | .iSendRls | .tSendAtrRes | .tDepTx => true
  | .idle | .iAwaitAtrRes | .iAwaitPslRes | .iActive | .iDepRx | .iAwaitDslRes | .iAwaitRlsRes
  | .tWaitAtr | .tWaitActCompletion | .tDepRx | .tRespPending | .tAwaitRtoxRes | .tSleep => false

/-- States 5 to 11 and 15 to 18: those of a session, "all reachable only with cfg_valid = true" (R24). -/
def isSessionSt : St → Bool
  | .iActive | .iDepTx | .iDepRx | .iSendDsl | .iAwaitDslRes | .iSendRls | .iAwaitRlsRes
  | .tDepRx | .tRespPending | .tAwaitRtoxRes | .tDepTx => true
  | .idle | .iSendAtr | .iAwaitAtrRes | .iSendPsl | .iAwaitPslRes
  | .tWaitAtr | .tSendAtrRes | .tWaitActCompletion | .tSleep => false

/-- The class of a recorded PFB, where one is recorded (R36, R85). Decision D3 errs "toward proving if the firmware
deviates; low risk". -/
def recordedClass (pfb : Option Byte) : Option DepKind := pfb.bind pfbClass

/-- "S.last_pfb valid and class(S.last_pfb) = S-ATN" (R233, R234, R265, R268). Decision D17 errs "neither". -/
def lastWasAtn (s : State) : Bool := recordedClass s.lastPfb == some .atn

/-- "S.last_pfb valid and class(S.last_pfb) = R-NACK" (R240). -/
def lastWasNack (s : State) : Bool := recordedClass s.lastPfb == some .nack

/-- The phase column of R21. Decisions: D2 errs "toward unprovable"; D33 errs "neither". -/
def stPhase : St → Phase
  | .iSendAtr | .iSendPsl | .iDepTx | .iSendDsl | .iSendRls | .tSendAtrRes | .tDepTx => .transmitting
  | .iAwaitAtrRes | .iAwaitPslRes | .iDepRx | .iAwaitDslRes | .iAwaitRlsRes
  | .tWaitAtr | .tWaitActCompletion | .tDepRx | .tAwaitRtoxRes => .awaitingResponse
  | .idle | .iActive | .tRespPending | .tSleep => .idle

/-- The phase: a function of state, not a register (R23). Decision D33 errs "neither". -/
def phase (s : State) : Phase :=
  if (s.st = .iDepRx ∨ s.st = .tDepRx) ∧ s.rxChaining = true ∧ recordedClass s.lastPfb = some .ack then
    .awaitingNextChainedBlock
  else stPhase s.st

/-- The status of a `Poll` that changes nothing (R22 (e)). Decisions: D2 errs "toward unprovable"; D21 errs "toward
unprovable"; D40 errs "toward unprovable". -/
def restStatus : St → Status
  | .iAwaitAtrRes | .iAwaitPslRes | .iDepRx | .iAwaitDslRes | .iAwaitRlsRes
  | .tWaitAtr | .tWaitActCompletion | .tDepRx | .tAwaitRtoxRes => .inProgress
  | .iSendAtr | .iSendPsl | .iDepTx | .iSendDsl | .iSendRls | .tSendAtrRes | .tDepTx => .inProgress
  | .idle | .iActive | .tRespPending | .tSleep => .idle

/-- The numeric code of an error (R320). Decision D20 errs "neither". -/
def errCode : Err → Nat
  | .timeout => 16
  | .transmission .crc => 17
  | .transmission .parity => 18
  | .transmission .framing => 19
  | .transmission .collision => 20
  | .protocolError => 21
  | .linkLoss => 22
  | .wrongState => 23
  | .badParam => 24
  | .bufferOverflow => 25

/-- The numeric code of a status (R320). Decision D20 errs "neither". -/
def statusCode : Status → Nat
  | .idle => 0
  | .inProgress => 1
  | .chainingContinue => 2
  | .done => 3
  | .deselected => 4
  | .released => 5
  | .err e => errCode e

end Sys2Proof.Machine
end

