-- ==== Sys2Proof/Machine/Operands.lean ====
section
/-! DEFINITION. Operand fields and the quantities derived from registers: frame sizes, deadlines, PNI arithmetic, RTOX
arithmetic, the fields of ATR and PSL bodies, and the checks of a frame against the session. -/

namespace Sys2Proof.Machine

/-! ### Frame size -/

/-- `FS(lr)` (10_state.md R30). Decision D4 errs "toward proving for lr 0..2". -/
def frameSize (lr : BitVec 2) : Nat :=
  match lr.toNat with
  | 0 => 64
  | 1 => 128
  | 2 => 192
  | _ => 254

/-- `HDR(did, nad)` (00_scope.md R13). Decision D5 errs "toward unprovable (smaller blocks than a looser reading)". -/
def hdrLen (did nad : Byte) : Nat := 3 + (if did = 0 then 0 else 1) + (if nad = 0 then 0 else 1)

/-- `max_inf = FS(S.lr) − HDR(S.did, S.nad)` (30_encoding.md R87). Decision D5 errs "toward unprovable (smaller blocks
than a looser reading)". -/
def maxInf (s : State) : Nat := frameSize s.lr - hdrLen s.did s.nad

/-- The smaller of two LR codes (R189, R205). Decision D35 errs "toward unprovable". -/
def minLr (a b : BitVec 2) : BitVec 2 := if a.toNat ≤ b.toNat then a else b

/-! ### Deadlines (60_exceptions.md R352) -/

/-- `RWT(wt) = 2^(12+wt)`. Decision D26 errs "neither (opaque)". -/
def rwt (wt : Nat) : Nat := 2 ^ (12 + wt)

/-- `FWT_MAX = RWT(WT_INI_MAX)` (R13). Decisions: D14 errs "neither (opaque to the model)"; D26 errs "neither (opaque)".
-/
def fwtMax (p : Config.Params) : Nat := rwt p.wtIniMax

/-- `ATR_DEADLINE = RWT(WT_INI_MAX) + DELTA_FWT` (R13). Decisions: D26 errs "neither (opaque)"; D37 errs "neither
(opaque)". -/
def atrDeadline (s : State) : Deadline := .within (rwt s.params.wtIniMax + s.params.deltaFwt)

/-- `dep_deadline = RWT(S.wt) + DELTA_FWT` (41_sequencing_chaining_counters.md R164). Decisions: D14 errs "neither
(opaque to the model)"; D26 errs "neither (opaque)". -/
def depDeadline (s : State) : Deadline := .within (rwt s.wt.toNat + s.params.deltaFwt)

/-- `rtox_deadline(v) = min(v · RWT(S.wt), FWT_MAX) + DELTA_FWT` (R164). Decisions: D14 errs "neither (opaque to the
model)"; D26 errs "neither (opaque)". -/
def rtoxDeadline (v : Byte) (s : State) : Deadline :=
  .within (min (v.toNat * rwt s.wt.toNat) (fwtMax s.params) + s.params.deltaFwt)

/-- `RTOX_DELAY(wt) = RWT(wt) − floor(RWT(wt)/8)` (R13). Decisions: D14 errs "neither (opaque to the model)"; D26 errs
"neither (opaque)". -/
def rtoxDelay (wt : BitVec 4) : Nat := rwt wt.toNat - rwt wt.toNat / 8

/-- A WT code capped by a role's maximum (10_state.md R31). Decision D26 errs "neither (opaque)". -/
def capWt (wt max : Nat) : BitVec 4 := BitVec.ofNat 4 (min wt max)

/-! ### RTOX values -/

/-- `clamp(x, lo, hi)`. -/
def clamp (x lo hi : Nat) : Nat := min (Nat.max x lo) hi

/-- `rtox_valid(v)` (R162). -/
def rtoxValid (v : Byte) : Bool := Config.rtoxMin ≤ v.toNat && v.toNat ≤ Config.rtoxMax

/-- `rtox_req_value(wt) = clamp(RWT(WT_TRG_MAX) div RWT(wt), 1, 59)` (R163). Decision D14 errs "neither (opaque to the
model)". -/
def rtoxReqValue (s : State) : Byte :=
  BitVec.ofNat 8 (clamp (rwt s.params.wtTrgMax / rwt s.wt.toNat) Config.rtoxMin Config.rtoxMax)

/-! ### PNI arithmetic (R150, R152) -/

/-- `pni_inc(p) = (p + 1) mod 4`. -/
def pniInc (p : Pni) : Pni := p + 1

/-- `pni_dec(p) = (p + 3) mod 4`. -/
def pniDec (p : Pni) : Pni := p + 3

/-- `pni_ok`: the received PNI is the expected one. Decision D16 errs "neither between two engines; toward proving
against a foreign peer". -/
def pniOk (p : Pni) (s : State) : Bool := p == s.pni

/-- `pni_prev`: the received PNI is the one before it. Decision D16 errs "neither between two engines; toward proving
against a foreign peer". -/
def pniPrev (p : Pni) (s : State) : Bool := p == pniDec s.pni

/-! ### ATR and PSL body fields (R93 to R97) -/

/-- Bits 3:0 of a BS, BR, TO or mask byte. Decision D6 errs "toward proving for a 48-byte GB in ATR_RES
(`91_not_in_source.md` N6)". -/
def lowNibble (b : Byte) : BitVec 4 := b.extractLsb' 0 4

/-- `LR` in bits 5:4 of a PP byte (R93). Decision D6 errs "toward proving for a 48-byte GB in ATR_RES
(`91_not_in_source.md` N6)". -/
def ppLr (pp : Byte) : BitVec 2 := pp.extractLsb' 4 2

/-- The NAD flag in bit 0 of a PP byte (R93). Decision D6 errs "toward proving for a 48-byte GB in ATR_RES
(`91_not_in_source.md` N6)". -/
def ppNad (pp : Byte) : Bool := pp.getLsbD 0

/-- `DSI`, bits 5:3 of BRS (R97). Decision D7 errs "`BRS_DIR`: either way, low confidence; named parameter". -/
def brsDsi (brs : Byte) : BitVec 3 := brs.extractLsb' 3 3

/-- `DRI`, bits 2:0 of BRS (R97). Decision D7 errs "`BRS_DIR`: either way, low confidence; named parameter". -/
def brsDri (brs : Byte) : BitVec 3 := brs.extractLsb' 0 3

/-- `LR`, bits 1:0 of FSL (R97). Decision D7 errs "`BRS_DIR`: either way, low confidence; named parameter". -/
def fslLr (fsl : Byte) : BitVec 2 := fsl.extractLsb' 0 2

/-- The rate a Target receives at after a PSL_REQ (R207). Decision D7 errs "`BRS_DIR`: either way, low confidence;
named parameter". -/
def pslRecv (dir : Config.BrsDir) (brs : Byte) : BitVec 3 :=
  match dir with
  | .dsiInitiatorToTarget => brsDsi brs
  | .dsiTargetToInitiator => brsDri brs

/-- The rate a Target sends at after a PSL_REQ (R207). Decision D7 errs "`BRS_DIR`: either way, low confidence; named
parameter". -/
def pslSend (dir : Config.BrsDir) (brs : Byte) : BitVec 3 :=
  match dir with
  | .dsiInitiatorToTarget => brsDri brs
  | .dsiTargetToInitiator => brsDsi brs

/-- `BrSupported(code, bs, br)` (42_activation.md R190). Decision D25 errs "toward unprovable (PSL happens less
often)". -/
def brSupported (code : BitVec 3) (bs br : BitVec 4) : Bool :=
  if code.toNat ≤ 2 then true
  else if code.toNat ≤ 6 then bs.getLsbD (code.toNat - 3) && br.getLsbD (code.toNat - 3)
  else false

/-- An NFCID padded with 0x00 to ten bytes (R180, R200). Decision D24 errs "neither". -/
def padNfcid (nfcid : List Byte) : List Byte :=
  nfcid ++ List.replicate (Config.nfcid3Len - nfcid.length) 0

/-! ### A frame against the session -/

/-- The optional header byte a register stands for: absent when the register is 0 (R86, R99). -/
def optByte (b : Byte) : Option Byte := if b = 0 then none else some b

/-- The DID/NAD checks of 40_codec.md R133: each byte is present exactly when the session's register is not 0, and
then equals it. Decision D29 errs "neither". -/
def headerOk (did nad : Option Byte) (s : State) : Bool := did == optByte s.did && nad == optByte s.nad

/-- `did_match(p)` (45_deactivation.md R308). Decision D30 errs "toward proving (a stricter peer would reject)". -/
def didMatch (did : Option Byte) (s : State) : Bool := did == optByte s.did

/-- The DID byte a PSL frame must carry: always `S.did`, or under `PSL_DID_ALWAYS = false` only when it is not 0 (R96,
R98). Decision D7 errs "`BRS_DIR`: either way, low confidence; named parameter". -/
def pslDid (s : State) : Option Byte := if s.params.pslDidAlways then some s.did else optByte s.did

/-- The check of a PSL_RES (R131): the DID byte that is due comes first and is `S.did`; what follows it, or follows CMD
where none is due, is ignored (log 12). Decisions: D7 errs "`BRS_DIR`: either way, low confidence; named parameter"; D30
errs "toward proving (a stricter peer would reject)". -/
def pslResDidOk (body : List Byte) (s : State) : Bool := (pslDid s).toList.isPrefixOf body

end Sys2Proof.Machine
end

