-- ==== Sys2Proof/Machine/Ops.lean ====
section
/-! DEFINITION. The shared operations: the buffer spaces (20_memory.md), the step's outputs (00_scope.md R15), the
counters (R16, R153), sequencing and chaining (41_sequencing_chaining_counters.md), the record of the last transmission
(R160, R161), and terminal entry, which is this block's taking of an exception (60_exceptions.md R340, R341; there is no
return operation, R342). -/

namespace Sys2Proof.Machine

/-! ### Buffer spaces -/

/-- The byte at an offset, where something has written one. -/
def Memory.read : Memory → Nat → Option Byte
  | [], _ => none
  | (k, b) :: rest, a => if a = k then some b else Memory.read rest a

/-- Write one byte, keeping the offsets strictly rising. -/
def Memory.write : Memory → Nat → Byte → Memory
  | [], a, v => [(a, v)]
  | (k, b) :: rest, a, v =>
    if a < k then (a, v) :: (k, b) :: rest
    else if a = k then (a, v) :: rest
    else (k, b) :: Memory.write rest a v

/-- The canonical form: offsets strictly rising. An unlisted offset holds no value, so no entry can equal one. -/
def Memory.wf : Memory → Bool
  | [] => true
  | [_] => true
  | (k, _) :: (k', b') :: rest => k < k' && Memory.wf ((k', b') :: rest)

/-- `MemRead(space, off, n)` (R15). Decision D34 errs "neither". -/
def Memory.readBytes (m : Memory) (off : Nat) : Nat → Option (List Byte)
  | 0 => some []
  | n + 1 =>
    match m.read off, Memory.readBytes m (off + 1) n with
    | some b, some bs => some (b :: bs)
    | _, _ => none

/-- `MemWrite(space, off, bytes)` (R15). Decision D34 errs "neither". -/
def Memory.writeBytes (m : Memory) (off : Nat) : List Byte → Memory
  | [] => m
  | b :: bs => Memory.writeBytes (m.write off b) (off + 1) bs

/-! ### Outputs of a step -/

/-- `emit A` (R15). Decisions: D32 errs "neither"; D34 errs "neither". -/
def emit (a : Action) (s : State) : State := { s with actions := s.actions ++ [a] }

/-- `return σ` (R15). Decision D34 errs "neither". -/
def ret (σ : Status) (s : State) : Result := .next { s with status := σ }

/-- A host-side error: returned "in the step that consumed the command, change no register and emit no action" (R322).
Decision D21 errs "toward unprovable". -/
def hostError (e : Err) (s : State) : Result := ret (.err e) s

/-- Re-arm reception without transmitting (R18); the Target's *Ignore* (44_dep_target.md R261). Decision D15 errs
"toward proving for properties of the Target's reactions; revisit first". -/
def ignore (s : State) : Result := ret .inProgress (emit (.rfRx .noDeadline) s)

/-! ### Terminal entry -/

/-- `landing(st)` (R341). `IDLE`, `I_ACTIVE` and `T_SLEEP` "raise nothing"; they stand for themselves here (log 13).
Decision D19 errs "toward proving that a session is usable after an error; a stricter model may land in `IDLE`
always". -/
def landing : St → St
  | .iSendAtr | .iAwaitAtrRes | .iSendPsl | .iAwaitPslRes => .idle
  | .tWaitAtr | .tSendAtrRes | .tWaitActCompletion => .idle
  | .iDepTx | .iDepRx => .iActive
  | .iSendDsl | .iAwaitDslRes | .iSendRls | .iAwaitRlsRes => .iActive
  | .tDepRx | .tRespPending | .tAwaitRtoxRes | .tDepTx => .tDepRx
  | .idle => .idle
  | .iActive => .iActive
  | .tSleep => .tSleep

/-- The actions of terminal entry, in the order of R340. Decision D19 errs "toward proving that a session is usable
after an error; a stricter model may land in `IDLE` always". -/
def terminalActions (lands : St) : List Action :=
  if lands = .tDepRx then [.timerStop, .rfRx .noDeadline] else [.timerStop]

/-- `raise E` (R340): the error is the step's status, the cycle is aborted, `st` goes to its landing. Decision D19
errs "toward proving that a session is usable after an error; a stricter model may land in `IDLE` always". -/
def raise (e : Err) (s : State) : Result :=
  ret (.err e)
    { s with
      actions := s.actions ++ terminalActions (landing s.st)
      txPending := false
      pendingReq := []
      txChaining := false
      rxChaining := false
      st := landing s.st
      cfgValid := if landing s.st = .idle then false else s.cfgValid }

/-! ### Counters -/

/-- The register of a counter. -/
def counterOf (c : Counter) (s : State) : Nat :=
  match c with
  | .tx => s.txRetries
  | .timeout => s.timeoutRetries
  | .rtox => s.rtoxRetries
  | .nack => s.nackRetries
  | .atn => s.atnRetries
  | .atr => s.atrRetries
  | .psl => s.pslRetries

/-- The ceiling of a counter (R326). Decisions: D8 errs "neither (fixed by scenarios)"; D9 errs "toward unprovable
(fewer retries means more errors)"; D10 errs "neither". -/
def ceilingOf (c : Counter) (p : Config.Params) : Nat :=
  match c with
  | .tx => p.txRetryMax
  | .timeout => Config.toRetryMax
  | .rtox => Config.rtoxRetryMax
  | .nack => Config.nackRetryMax
  | .atn => Config.atnRetryMax
  | .atr => Config.atrRetryMax
  | .psl => p.pslRetryMax

/-- Add one to a counter. -/
def bump (c : Counter) (s : State) : State :=
  match c with
  | .tx => { s with txRetries := s.txRetries + 1 }
  | .timeout => { s with timeoutRetries := s.timeoutRetries + 1 }
  | .rtox => { s with rtoxRetries := s.rtoxRetries + 1 }
  | .nack => { s with nackRetries := s.nackRetries + 1 }
  | .atn => { s with atnRetries := s.atnRetries + 1 }
  | .atr => { s with atrRetries := s.atrRetries + 1 }
  | .psl => { s with pslRetries := s.pslRetries + 1 }

/-- `retry(c, MAX)` (R16): `none` is Exhausted, with nothing changed. Decision D8 errs "neither (fixed by
scenarios)". -/
def retry (c : Counter) (s : State) : Option State :=
  if ceilingOf c s.params ≤ counterOf c s then none else some (bump c s)

/-- Use a retry, or end with `exhausted`. Decision D8 errs "neither (fixed by scenarios)". -/
def withRetry (c : Counter) (exhausted : State → Result) (allowed : State → Result) (s : State) : Result :=
  match retry c s with
  | none => exhausted s
  | some s' => allowed s'

/-- `clear_counters()` (R153). -/
def clearCounters (s : State) : State :=
  { s with txRetries := 0, timeoutRetries := 0, rtoxRetries := 0, nackRetries := 0, atnRetries := 0 }

/-! ### Sequencing and chaining -/

/-- `advance_pni()` (R151). Decision D16 errs "neither between two engines; toward proving against a foreign peer". -/
def advancePni (s : State) : State := { s with pni := pniInc s.pni }

/-- `append(inf)` past its overflow check (R157). Decision D23 errs "toward unprovable". -/
def append (inf : List Byte) (s : State) : State :=
  { s with rxAcc := s.rxAcc.writeBytes s.rxLen inf, rxLen := s.rxLen + inf.length }

/-- The number of bytes the next I-PDU carries (R155). Decision D5 errs "toward unprovable (smaller blocks than a
looser reading)". -/
def nextBlockLen (s : State) : Nat := min (maxInf s) (s.txLen - s.txOff)

/-- `next_block()` (R155): the block, its MI bit, and the state with `tx_off` moved on. `none` where the buffer holds no
byte at an offset it would read (log 4). Decision D5 errs "toward unprovable (smaller blocks than a looser reading)". -/
def nextBlock (s : State) : Option (List Byte × Bool × State) :=
  match s.txBuf.readBytes s.txOff (nextBlockLen s) with
  | none => none
  | some inf =>
    let off := s.txOff + nextBlockLen s
    some (inf, decide (off < s.txLen), { s with txOff := off })

/-- Load the outbound buffer with the host's data (R220, R280). Decisions: D15 errs "toward proving for properties of
the Target's reactions; revisit first"; D23 errs "toward unprovable"; D32 errs "neither". -/
def loadTxBuf (data : List Byte) (s : State) : State :=
  { s with txBuf := s.txBuf.writeBytes 0 data, txLen := data.length, txOff := 0, txChaining := false }

/-! ### The record of the last transmission -/

/-- The PFB of a DEP frame (offset 3). -/
def framePfb (frame : List Byte) : Byte := frame.getD 3 0

/-- `record_tx(frame, deadline)` (R160). Decision D17 errs "neither". -/
def recordTx (frame : List Byte) (d : Deadline) (s : State) : State :=
  { s with
    lastPfb := some (framePfb frame)
    lastPfbExcludingAtn :=
      if pfbClass (framePfb frame) = some .atn then s.lastPfbExcludingAtn else some (framePfb frame)
    lastFrame := if pfbClass (framePfb frame) = some .atn then s.lastFrame else frame
    lastDeadline := if pfbClass (framePfb frame) = some .atn then s.lastDeadline else d
    lastRtoxValue :=
      if pfbClass (framePfb frame) = some .rtox then frame.getLastD 0 else s.lastRtoxValue }

/-- `retransmit()` (R161). Decision D17 errs "neither". -/
def retransmit (s : State) : State :=
  { s with
    actions := s.actions ++ [.rfTxRx s.lastFrame s.lastDeadline]
    lastPfb := s.lastPfbExcludingAtn }

/-- A frame is recorded: the precondition of `retransmit` (R161, log 9). Decision D17 errs "neither". -/
def hasLastFrame (s : State) : Bool := !s.lastFrame.isEmpty

/-- The activation reset `S <- reset` (R361): every register of S, and none of the fields that are not S's. Decisions:
D22 errs "neither"; D31 errs "neither". -/
def resetRegisters (s : State) : State :=
  { State.reset with params := s.params, inputs := s.inputs, actions := s.actions, status := s.status }

end Sys2Proof.Machine
end

