-- ==== Sys2Proof/Machine/Codec.lean ====
section
/-! DEFINITION. The encoders of the Frame Codec that read the session (40_codec.md R120, R124 to R135), and the
transmission of a DEP frame. -/

namespace Sys2Proof.Machine

/-- The PP byte (R93, R124): LR in bits 5:4, the GB flag, the NAD flag. Decision D6 errs "toward proving for a 48-byte
GB in ATR_RES (`91_not_in_source.md` N6)". -/
def ppByte (s : State) : Byte :=
  (0 : BitVec 2) ++ s.lr ++ (0 : BitVec 2) ++ BitVec.ofBool (!s.gbLocal.isEmpty) ++ BitVec.ofBool (s.nad != 0)

/-- A nibble register as a byte with bits 7:4 zero (R91 to R95). Decision D6 errs "toward proving for a 48-byte GB in
ATR_RES (`91_not_in_source.md` N6)". -/
def nibbleByte (n : BitVec 4) : Byte := (0 : BitVec 4) ++ n

/-- Encode ATR_REQ (R124). Decision D6 errs "toward proving for a 48-byte GB in ATR_RES (`91_not_in_source.md`
N6)". -/
def encodeAtrReq (s : State) : List Byte :=
  frameOf .atrReq (s.nfcid3Local ++ s.did :: nibbleByte s.ownBs :: nibbleByte s.ownBr :: ppByte s :: s.gbLocal)

/-- Encode ATR_RES (R126). Decision D6 errs "toward proving for a 48-byte GB in ATR_RES (`91_not_in_source.md`
N6)". -/
def encodeAtrRes (s : State) : List Byte :=
  frameOf .atrRes
    (s.nfcid3Local ++
      s.did :: nibbleByte s.ownBs :: nibbleByte s.ownBr :: nibbleByte s.wt :: ppByte s :: s.gbLocal)

/-- BRS of this Initiator: `DSI = DRI = S.desired_br` (R97, R128). Decisions: D7 errs "`BRS_DIR`: either way, low
confidence; named parameter"; D25 errs "toward unprovable (PSL happens less often)". -/
def brsByte (s : State) : Byte := (0 : BitVec 2) ++ s.desiredBr ++ s.desiredBr

/-- FSL: LR in bits 1:0 (R97). Decision D7 errs "`BRS_DIR`: either way, low confidence; named parameter". -/
def fslByte (s : State) : Byte := (0 : BitVec 6) ++ s.lr

/-- Encode PSL_REQ (R128). Decisions: D7 errs "`BRS_DIR`: either way, low confidence; named parameter"; D25 errs "toward
unprovable (PSL happens less often)". -/
def encodePslReq (s : State) : List Byte := frameOf .pslReq ((pslDid s).toList ++ [brsByte s, fslByte s])

/-- Encode PSL_RES (R130). Decision D7 errs "`BRS_DIR`: either way, low confidence; named parameter". -/
def encodePslRes (s : State) : List Byte := frameOf .pslRes (pslDid s).toList

/-- The DEP frame kind a role sends (R132): requests from the Initiator, responses from the Target. Decision D3 errs
"toward proving if the firmware deviates; low risk". -/
def depFrameKind (r : Role) : FrameKind :=
  match r with
  | .initiator => .depReq
  | .target => .depRes

/-- The PNI an encoded PFB carries: `S.pni`, and 0 in S-PDUs (R132). Decisions: D3 errs "toward proving if the firmware
deviates; low risk"; D16 errs "neither between two engines; toward proving against a foreign peer". -/
def sentPni (k : DepKind) (s : State) : Pni :=
  match k with
  | .info _ => s.pni
  | .ack => s.pni
  | .nack => s.pni
  | .atn => 0
  | .rtox => 0

/-- Encode DEP (R132). Decision D3 errs "toward proving if the firmware deviates; low risk". -/
def encodeDep (k : DepKind) (payload : List Byte) (s : State) : List Byte :=
  frameOf (depFrameKind s.role) (depBody k (sentPni k s) (optByte s.did) (optByte s.nad) payload)

/-- Encode DSL_REQ, DSL_RES, RLS_REQ or RLS_RES (R135). -/
def encodeDeact (k : FrameKind) (s : State) : List Byte := frameOf k (optByte s.did).toList

/-- Transmit a DEP frame and record it: "called by every rule that transmits a DEP frame, in the same step" (R160).
Decision D17 errs "neither". -/
def sendDep (k : DepKind) (payload : List Byte) (d : Deadline) (s : State) : State :=
  recordTx (encodeDep k payload s) d (emit (.rfTxRx (encodeDep k payload s) d) s)

end Sys2Proof.Machine
end

