-- ==== Sys2Proof/Machine/Sending.lean ====
section
/-! DEFINITION. The seven "next step" states (10_state.md R21): what a step that is not a command does in each, and what
every other state does with an input it does not wait for (R22). -/

namespace Sys2Proof.Machine

/-- `I_SEND_ATR` (42_activation.md R182). Not recorded. Decision D37 errs "neither (opaque)". -/
def sendAtrReq (s : State) : Result :=
  ret .inProgress { emit (.rfTxRx (encodeAtrReq s) (atrDeadline s)) s with st := .iAwaitAtrRes }

/-- `I_SEND_PSL` (R191). Decision D37 errs "neither (opaque)". -/
def sendPslReq (s : State) : Result :=
  ret .inProgress { emit (.rfTxRx (encodePslReq s) (depDeadline s)) s with st := .iAwaitPslRes }

/-- `T_SEND_ATR_RES` (R205): PPt carries the Target's own `lr`; then `lr` is lowered. Decision D35 errs "toward
unprovable". -/
def sendAtrRes (s : State) : Result :=
  ret .inProgress
    { emit (.rfTxRx (encodeAtrRes s) .noDeadline) s with lr := minLr s.lr s.peerLr, st := .tWaitActCompletion }

/-- `I_DEP_TX` (43_dep_initiator.md R222). Decisions: D5 errs "toward unprovable (smaller blocks than a looser
reading)"; D17 errs "neither". -/
def sendBlockInitiator (s : State) : Result :=
  match nextBlock s with
  | none => .fault .unwrittenTxBufByte
  | some (inf, mi, s1) =>
    let s2 := sendDep (.info mi) inf (depDeadline s1) { s1 with txChaining := mi }
    ret .inProgress { s2 with st := .iDepRx }

/-- `T_DEP_TX` (44_dep_target.md R285): the Target sends, then advances. Decisions: D5 errs "toward unprovable (smaller
blocks than a looser reading)"; D15 errs "toward proving for properties of the Target's reactions; revisit first"; D16
errs "neither between two engines; toward proving against a foreign peer"; D17 errs "neither". -/
def sendBlockTarget (s : State) : Result :=
  match nextBlock s with
  | none => .fault .unwrittenTxBufByte
  | some (inf, mi, s1) =>
    let s2 := sendDep (.info mi) inf .noDeadline { s1 with txChaining := mi }
    ret .inProgress { advancePni s2 with st := .tDepRx }

/-- `I_SEND_DSL` (45_deactivation.md R302). Decision D37 errs "neither (opaque)". -/
def sendDslReq (s : State) : Result :=
  ret .inProgress { emit (.rfTxRx (encodeDeact .dslReq s) (depDeadline s)) s with st := .iAwaitDslRes }

/-- `I_SEND_RLS` (R302). Decision D37 errs "neither (opaque)". -/
def sendRlsReq (s : State) : Result :=
  ret .inProgress { emit (.rfTxRx (encodeDeact .rlsReq s) (depDeadline s)) s with st := .iAwaitRlsRes }

/-- A step with an input that is no command and that the state does not wait for: a "next step" state sends; any other
state changes nothing and answers the status of `Poll` (R22 (c), (d), (e)). Decisions: D2 errs "toward unprovable"; D15
errs "toward proving for properties of the Target's reactions; revisit first"; D21 errs "toward unprovable"; D27 errs
"toward unprovable"; D40 errs "toward unprovable". -/
def tick (s : State) : Result :=
  match s.st with
  | .iSendAtr => sendAtrReq s
  | .iSendPsl => sendPslReq s
  | .iDepTx => sendBlockInitiator s
  | .iSendDsl => sendDslReq s
  | .iSendRls => sendRlsReq s
  | .tSendAtrRes => sendAtrRes s
  | .tDepTx => sendBlockTarget s
  | .idle => ret (restStatus .idle) s
  | .iAwaitAtrRes => ret (restStatus .iAwaitAtrRes) s
  | .iAwaitPslRes => ret (restStatus .iAwaitPslRes) s
  | .iActive => ret (restStatus .iActive) s
  | .iDepRx => ret (restStatus .iDepRx) s
  | .iAwaitDslRes => ret (restStatus .iAwaitDslRes) s
  | .iAwaitRlsRes => ret (restStatus .iAwaitRlsRes) s
  | .tWaitAtr => ret (restStatus .tWaitAtr) s
  | .tWaitActCompletion => ret (restStatus .tWaitActCompletion) s
  | .tDepRx => ret (restStatus .tDepRx) s
  | .tRespPending => ret (restStatus .tRespPending) s
  | .tAwaitRtoxRes => ret (restStatus .tAwaitRtoxRes) s
  | .tSleep => ret (restStatus .tSleep) s

/-- A well-delimited frame that the state does not accept: `Unexpected` or `ProtocolError` of the codec (R121), a wrong
command, a reserved one, or a header that disagrees with the session. The two verdicts have one consequence in every
state (log 11): an Initiator raises ProtocolError (R188, R192, R235, R307), so does a Target in `T_WAIT_ATR` (R204); a
later Target state ignores it (R206, R263); a state that does not wait for `Rf` discards it (R22 (c)). Decisions: D15
errs "toward proving for properties of the Target's reactions; revisit first"; D18 errs "neither"; D29 errs "neither";
D37 errs "neither (opaque)"; D40 errs "toward unprovable". -/
def unexpected (s : State) : Result :=
  match s.st with
  | .iAwaitAtrRes => raise .protocolError s
  | .iAwaitPslRes => raise .protocolError s
  | .iDepRx => raise .protocolError s
  | .iAwaitDslRes => raise .protocolError s
  | .iAwaitRlsRes => raise .protocolError s
  | .tWaitAtr => raise .protocolError s
  | .tWaitActCompletion => ignore s
  | .tDepRx => ignore s
  | .tAwaitRtoxRes => ignore s
  | .idle => tick s
  | .iSendAtr => tick s
  | .iSendPsl => tick s
  | .iActive => tick s
  | .iDepTx => tick s
  | .iSendDsl => tick s
  | .iSendRls => tick s
  | .tSendAtrRes => tick s
  | .tRespPending => tick s
  | .tDepTx => tick s
  | .tSleep => tick s

end Sys2Proof.Machine
end

