-- ==== Sys2Proof/Machine/Recovery.lean ====
section
/-! DEFINITION. RF errors: the Recovery Supervisor of the Initiator (43_dep_initiator.md R223, R240 to R244), the
activation retries (42_activation.md R184 to R186, R192), and what every other state does with an RF error. -/

namespace Sys2Proof.Machine

/-- ATR retry (R184): "only on a transmission error". Decisions: D8 errs "neither (fixed by scenarios)"; D10 errs
"neither". -/
def retryAtr (k : TxErr) (s : State) : Result :=
  withRetry .atr (raise (.transmission k)) (fun s1 => ret .inProgress { s1 with st := .iSendAtr }) s

/-- PSL retry (R192). Decisions: D8 errs "neither (fixed by scenarios)"; D9 errs "toward unprovable (fewer retries means
more errors)"; D10 errs "neither". -/
def retryPsl (k : TxErr) (s : State) : Result :=
  withRetry .psl (raise (.transmission k)) (fun s1 => ret .inProgress { s1 with st := .iSendPsl }) s

/-- Send a NACK, or end with Framing at the ceiling (R242, R243). Decisions: D10 errs "neither"; D11 errs "toward
unprovable (more NACKs, earlier Framing error)". -/
def sendNack (s : State) : Result :=
  withRetry .nack (raise (.transmission .framing))
    (fun s1 => ret .inProgress (sendDep .nack [] (depDeadline s1) s1)) s

/-- A transmission error of a frame of `n` bytes in `I_DEP_RX` (R243, R244). Decisions: D10 errs "neither"; D11 errs
"toward unprovable (more NACKs, earlier Framing error)"; D12 errs "toward unprovable (host may wait for more retries
than in the firmware)". -/
def recoverTransmission (n : Nat) (s : State) : Result :=
  if s.params.shortTxerrPolicy = .ignore ∧ n < s.params.minTxerrLen then
    ret .inProgress (emit (.rfRx s.lastDeadline) s)
  else sendNack s

/-- Send an ATN (R241). Decisions: D10 errs "neither"; D13 errs "toward unprovable". -/
def sendAtn (s : State) : Result :=
  if atnEn s then
    withRetry .atn (raise .protocolError)
      (fun s1 => ret .inProgress (sendDep .atn [] (depDeadline s1) s1)) s
  else raise .timeout s

/-- A timeout in `I_DEP_RX` (R240): "the order of the tests is normative". Decisions: D10 errs "neither"; D12 errs
"toward unprovable (host may wait for more retries than in the firmware)". -/
def recoverTimeout (deactPending : Bool) (s : State) : Result :=
  if deactPending then raise .timeout s
  else
    withRetry .timeout (raise .protocolError)
      (fun s1 => if lastWasNack s1 then sendNack s1 else sendAtn s1) s

/-- The error an RF error surfaces as where nothing recovers from it (R185, R186, R307). Decisions: D10 errs "neither";
D19 errs "toward proving that a session is usable after an error; a stricter model may land in `IDLE` always"; D37 errs
"neither (opaque)". -/
def rfErrAsErr : RfErr → Err
  | .timeout => .timeout
  | .linkLoss => .linkLoss
  | .transmission k => .transmission k

/-- A Target's answer to an RF error: LinkLoss is raised, anything else re-arms (R186, R201, R206, R262, R263).
Decisions: D15 errs "toward proving for properties of the Target's reactions; revisit first"; D29 errs "neither". -/
def targetRfError (e : RfErr) (s : State) : Result :=
  match e with
  | .linkLoss => raise .linkLoss s
  | .timeout => ignore s
  | .transmission _ => ignore s

/-- `Rf(RxErr(e, n))` in every state. Decisions: D10 errs "neither"; D12 errs "toward unprovable (host may wait for more
retries than in the firmware)"; D15 errs "toward proving for properties of the Target's reactions; revisit first"; D37
errs "neither (opaque)"; D40 errs "toward unprovable". -/
def rfError (e : RfErr) (n : Nat) (deactPending : Bool) (s : State) : Result :=
  match s.st with
  | .iAwaitAtrRes =>
    match e with
    | .transmission k => retryAtr k s
    | .timeout => raise .timeout s
    | .linkLoss => raise .linkLoss s
  | .iAwaitPslRes =>
    match e with
    | .transmission k => retryPsl k s
    | .timeout => raise .timeout s
    | .linkLoss => raise .linkLoss s
  | .iDepRx =>
    match e with
    | .transmission _ => recoverTransmission n s
    | .timeout => recoverTimeout deactPending s
    | .linkLoss => raise .linkLoss s
  | .iAwaitDslRes => raise (rfErrAsErr e) s
  | .iAwaitRlsRes => raise (rfErrAsErr e) s
  | .tWaitAtr => targetRfError e s
  | .tWaitActCompletion => targetRfError e s
  | .tDepRx => targetRfError e s
  | .tAwaitRtoxRes => targetRfError e s
  | .idle => tick s
  | .iSendAtr => tick s
  | .iSendPsl => tick s
  | .iActive => tick s
  | .iDepTx => tick s
  | .iSendDsl => tick s
  | .iSendRls => tick s
  | .tSendAtrRes => tick s
  | .tRespPending => tick s
  | .tDepTx => tick s
  | .tSleep => tick s

/-- The first DEP_REQ in `T_WAIT_ACT_COMPLETION` (R208): queued as bytes, no RF action. Decision D15 errs "toward
proving for properties of the Target's reactions; revisit first". -/
def queueRequest (bytes : List Byte) (s : State) : Result :=
  ret .done { s with pendingReq := bytes, cfgValid := true, st := .tDepRx }

/-- Bytes that are no instruction. A Malformed frame is a transmission error of class Framing and of the length received
(60_exceptions.md R324). A DEP_REQ "not further decoded" in `T_WAIT_ACT_COMPLETION` is queued whatever its body is
(R206, R208, log 24). Any other is a frame the state does not accept. Decisions: D15 errs "toward proving for properties
of the Target's reactions; revisit first"; D18 errs "neither"; D29 errs "neither". -/
def badFrame (bytes : List Byte) (why : Reject) (s : State) : Result :=
  if why = .malformed then rfError (.transmission .framing) bytes.length false s
  else if s.st = .tWaitActCompletion ∧ frameKind bytes = some .depReq then queueRequest bytes s
  else unexpected s

end Sys2Proof.Machine
end

