-- ==== Sys2Proof/Machine/Activation.lean ====
section
/-! DEFINITION. The family of the activation frames: ATR_REQ, ATR_RES, PSL_REQ, PSL_RES as their receiver processes them
(42_activation.md). -/

namespace Sys2Proof.Machine

/-- ATR_REQ. In `T_WAIT_ATR`: accepted by R203, or ProtocolError where `DIDi > DID_MAX` (R125, R204). Unexpected
everywhere else. Decisions: D29 errs "neither"; D35 errs "toward unprovable". -/
def execAtrReq (nfcid3 : List Byte) (did bs br pp : Byte) (gb : List Byte) (s : State) : Result :=
  if s.st = .tWaitAtr then
    if did.toNat ≤ s.params.didMax then
      ret .inProgress
        { s with
          nfcid3Peer := nfcid3
          gbPeer := gb
          did := did
          peerBs := lowNibble bs
          peerBr := lowNibble br
          peerLr := ppLr pp
          peerNadUsed := ppNad pp
          pni := 0
          st := .tSendAtrRes }
    else raise .protocolError s
  else unexpected s

/-- `need_psl` of R189: the desired rate differs from a negotiated one and the peer supports it. Decision D25 errs
"toward unprovable (PSL happens less often)". -/
def needPsl (peerBs peerBr : BitVec 4) (s : State) : Bool :=
  (s.desiredBr != s.bitrateSend || s.desiredBr != s.bitrateRecv) && brSupported s.desiredBr peerBs peerBr

/-- The registers an accepted ATR_RES writes (R189). Decisions: D25 errs "toward unprovable (PSL happens less often)";
D26 errs "neither (opaque)"; D35 errs "toward unprovable". -/
def acceptAtrRes (nfcid3 : List Byte) (bs br tob pp : Byte) (gb : List Byte) (s : State) : State :=
  { s with
    nfcid3Peer := nfcid3
    gbPeer := gb
    peerBs := lowNibble bs
    peerBr := lowNibble br
    peerLr := ppLr pp
    peerNadUsed := ppNad pp
    lr := minLr s.lr (ppLr pp)
    wt := capWt (lowNibble tob).toNat s.params.wtIniMax
    pni := 0 }

/-- ATR_RES. In `I_AWAIT_ATR_RES`: accepted by R189, or ProtocolError where DIDt differs from the DID sent (R127, R188).
Unexpected everywhere else. Decisions: D25 errs "toward unprovable (PSL happens less often)"; D35 errs "toward
unprovable". -/
def execAtrRes (nfcid3 : List Byte) (did bs br tob pp : Byte) (gb : List Byte) (s : State) : Result :=
  if s.st = .iAwaitAtrRes then
    if did = s.did then
      if needPsl (lowNibble bs) (lowNibble br) s then
        ret .inProgress { acceptAtrRes nfcid3 bs br tob pp gb s with st := .iSendPsl }
      else
        ret .done { acceptAtrRes nfcid3 bs br tob pp gb s with cfgValid := true, st := .iActive }
    else raise .protocolError s
  else unexpected s

/-- The rates and frame size a Target takes from a PSL_REQ, with the actions of R207 in their order: PSL_RES at the
old rate, then SetBitRate, then UpdateDeviceRecord. Decision D7 errs "`BRS_DIR`: either way, low confidence; named
parameter". -/
def acceptPslReq (brs fsl : Byte) (s : State) : State :=
  { s with
    actions := s.actions ++
      [.rfTxRx (encodePslRes s) .noDeadline,
       .setBitRate (pslSend s.params.brsDir brs) (pslRecv s.params.brsDir brs),
       .updateDeviceRecord (frameSize (fslLr fsl)) (pslSend s.params.brsDir brs) (pslRecv s.params.brsDir brs)]
    bitrateRecv := pslRecv s.params.brsDir brs
    bitrateSend := pslSend s.params.brsDir brs
    lr := fslLr fsl }

/-- PSL_REQ. In `T_WAIT_ACT_COMPLETION`: accepted by R207, or ignored where it fails R129 (R206). Unexpected everywhere
else. Decisions: D7 errs "`BRS_DIR`: either way, low confidence; named parameter"; D15 errs "toward proving for
properties of the Target's reactions; revisit first"; D29 errs "neither". -/
def execPslReq (did : Option Byte) (brs fsl : Byte) (s : State) : Result :=
  if s.st = .tWaitActCompletion then
    if did = pslDid s then
      ret .done { acceptPslReq brs fsl s with cfgValid := true, st := .tDepRx }
    else ignore s
  else unexpected s

/-- The rates an Initiator takes on PSL success, with the actions of R193: "one atomic update". Decision D25 errs
"toward unprovable (PSL happens less often)". -/
def acceptPslRes (s : State) : State :=
  { s with
    actions := s.actions ++
      [.setBitRate s.desiredBr s.desiredBr, .updateDeviceRecord (frameSize s.lr) s.desiredBr s.desiredBr]
    bitrateSend := s.desiredBr
    bitrateRecv := s.desiredBr }

/-- PSL_RES. In `I_AWAIT_PSL_RES`: accepted by R193, or ProtocolError where it fails the DID check of R131 (R192).
Unexpected everywhere else. Decisions: D7 errs "`BRS_DIR`: either way, low confidence; named parameter"; D30 errs
"toward proving (a stricter peer would reject)". -/
def execPslRes (body : List Byte) (s : State) : Result :=
  if s.st = .iAwaitPslRes then
    if pslResDidOk body s then
      ret .done { acceptPslRes s with cfgValid := true, st := .iActive }
    else raise .protocolError s
  else unexpected s

end Sys2Proof.Machine
end

