-- ==== Sys2Proof/Machine/Deactivation.lean ====
section
/-! DEFINITION. The family of the deactivation frames: DSL_REQ, DSL_RES, RLS_REQ, RLS_RES as their receiver processes
them (45_deactivation.md R303 to R308). -/

namespace Sys2Proof.Machine

/-- The three states in which a Target takes DSL_REQ and RLS_REQ (R305). Decisions: D15 errs "toward proving for
properties of the Target's reactions; revisit first"; D27 errs "toward unprovable". -/
def takesDeactReq (st : St) : Bool := st == .tWaitActCompletion || st == .tDepRx || st == .tAwaitRtoxRes

/-- The Target's answer to a matching DSL_REQ or RLS_REQ (R305, R306): the response, TimerStop, the session closed.
Decisions: D15 errs "toward proving for properties of the Target's reactions; revisit first"; D19 errs "toward proving
that a session is usable after an error; a stricter model may land in `IDLE` always"; D27 errs "toward unprovable". -/
def closeTarget (res : FrameKind) (lands : St) (s : State) : State :=
  { s with
    actions := s.actions ++ [.rfTxRx (encodeDeact res s) .noDeadline, .timerStop]
    cfgValid := false
    pendingReq := []
    txPending := false
    st := lands }

/-- The Initiator's end of session (R303, R304). Decision D19 errs "toward proving that a session is usable after an
error; a stricter model may land in `IDLE` always". -/
def closeInitiator (s : State) : Result := ret .done { s with cfgValid := false, st := .idle }

/-- DSL_REQ (R305): ignored where the DID does not match. Decisions: D15 errs "toward proving for properties of the
Target's reactions; revisit first"; D27 errs "toward unprovable". -/
def execDslReq (did : Option Byte) (_trail : List Byte) (s : State) : Result :=
  if takesDeactReq s.st then
    if didMatch did s then ret .deselected (closeTarget .dslRes .tSleep s) else ignore s
  else unexpected s

/-- DSL_RES (R303, R307). Decisions: D19 errs "toward proving that a session is usable after an error; a stricter model
may land in `IDLE` always"; D37 errs "neither (opaque)". -/
def execDslRes (did : Option Byte) (_trail : List Byte) (s : State) : Result :=
  if s.st = .iAwaitDslRes then
    if didMatch did s then closeInitiator s else raise .protocolError s
  else unexpected s

/-- RLS_REQ (R306): as DSL_REQ, with RLS_RES and `IDLE`. Decision D15 errs "toward proving for properties of the
Target's reactions; revisit first". -/
def execRlsReq (did : Option Byte) (_trail : List Byte) (s : State) : Result :=
  if takesDeactReq s.st then
    if didMatch did s then ret .released (closeTarget .rlsRes .idle s) else ignore s
  else unexpected s

/-- RLS_RES (R304, R307). Decisions: D19 errs "toward proving that a session is usable after an error; a stricter model
may land in `IDLE` always"; D37 errs "neither (opaque)". -/
def execRlsRes (did : Option Byte) (_trail : List Byte) (s : State) : Result :=
  if s.st = .iAwaitRlsRes then
    if didMatch did s then closeInitiator s else raise .protocolError s
  else unexpected s

end Sys2Proof.Machine
end

