-- ==== Sys2Proof/Machine/DepInitiator.lean ====
section
/-! DEFINITION. The family DEP_RES: the five response classes as the Initiator processes them (43_dep_initiator.md R228
to R235). -/

namespace Sys2Proof.Machine

/-- The front of every DEP_RES: in `I_DEP_RX` a header that disagrees with the session is a ProtocolError (R133, R223,
R235); in any other state the frame is unexpected. Decision D29 errs "neither". -/
def onDepRes (did nad : Option Byte) (body : State → Result) (s : State) : Result :=
  if s.st = .iDepRx then
    if headerOk did nad s then body s else raise .protocolError s
  else unexpected s

/-- Retransmit under `tx_retries` (R229, R233). With nothing recorded, R161's precondition fails and the PDU falls under
"anything else → ProtocolError" (log 9). Decisions: D9 errs "toward unprovable (fewer retries means more errors)"; D10
errs "neither"; D17 errs "neither". -/
def boundedRetransmit (s : State) : Result :=
  if hasLastFrame s then
    withRetry .tx (raise .protocolError) (fun s1 => ret .inProgress (retransmit s1)) s
  else raise .protocolError s

/-- DEP_RES.ACK past its header (R228, R229, R230). Decisions: D9 errs "toward unprovable (fewer retries means more
errors)"; D16 errs "neither between two engines; toward proving against a foreign peer"; D17 errs "neither"; D28 errs
"toward proving (firmware may raise ProtocolError, `93_implementation_defined.md` U9)". -/
def initiatorAck (pni : Pni) (s : State) : Result :=
  if pniOk pni s then
    if s.txChaining then ret .inProgress { clearCounters (advancePni s) with st := .iDepTx }
    else ret .done { clearCounters (advancePni s) with st := .iActive }
  else if pniPrev pni s then boundedRetransmit s
  else raise .protocolError s

/-- The verified block of R231 and R232: append, advance, clear. Decisions: D16 errs "neither between two engines;
toward proving against a foreign peer"; D23 errs "toward unprovable"; D39 errs "toward proving
(`93_implementation_defined.md` U10)". -/
def acceptBlockInitiator (inf : List Byte) (s : State) : State := clearCounters (advancePni (append inf s))

/-- DEP_RES.I past its header: the three checks of R231, then R231 or R232. Decisions: D13 errs "toward unprovable"; D16
errs "neither between two engines; toward proving against a foreign peer"; D23 errs "toward unprovable"; D39 errs
"toward proving (`93_implementation_defined.md` U10)". -/
def initiatorInfo (mi : Bool) (pni : Pni) (inf : List Byte) (s : State) : Result :=
  if pniOk pni s = false then raise .protocolError s
  else if inf = [] ∧ emptyEn s = false then raise .protocolError s
  else if s.params.rxCap < s.rxLen + inf.length then raise .bufferOverflow s
  else if mi then
    let s1 := { acceptBlockInitiator inf s with rxChaining := true }
    ret .chainingContinue (sendDep .ack [] (depDeadline s1) s1)
  else ret .done { acceptBlockInitiator inf s with rxChaining := false, st := .iActive }

/-- DEP_RES.ATN past its header (R233). Decisions: D9 errs "toward unprovable (fewer retries means more errors)"; D17
errs "neither". -/
def initiatorAtn (s : State) : Result :=
  if lastWasAtn s then boundedRetransmit s else raise .protocolError s

/-- DEP_RES.RTOX past its header (R234): grant by echoing. Decisions: D8 errs "neither (fixed by scenarios)"; D10 errs
"neither"; D14 errs "neither (opaque to the model)". -/
def initiatorRtox (v : Byte) (s : State) : Result :=
  if lastWasAtn s then raise .protocolError s
  else if rtoxValid v = false then raise .protocolError s
  else
    withRetry .rtox (raise .protocolError)
      (fun s1 => ret .inProgress (sendDep .rtox [v] (rtoxDeadline v s1) s1)) s

/-- DEP_RES.I (R231, R232). Decisions: D13 errs "toward unprovable"; D23 errs "toward unprovable"; D39 errs "toward
proving (`93_implementation_defined.md` U10)". -/
def execDepResI (mi : Bool) (pni : Pni) (did nad : Option Byte) (inf : List Byte) (s : State) : Result :=
  onDepRes did nad (initiatorInfo mi pni inf) s

/-- DEP_RES.ACK (R228, R229, R230). Decisions: D9 errs "toward unprovable (fewer retries means more errors)"; D17 errs
"neither"; D28 errs "toward proving (firmware may raise ProtocolError, `93_implementation_defined.md` U9)". -/
def execDepResAck (pni : Pni) (did nad : Option Byte) (_trail : List Byte) (s : State) : Result :=
  onDepRes did nad (initiatorAck pni) s

/-- DEP_RES.NACK (R230): "an Initiator never expects a NACK". -/
def execDepResNack (_pni : Pni) (did nad : Option Byte) (_trail : List Byte) (s : State) : Result :=
  onDepRes did nad (raise .protocolError) s

/-- DEP_RES.ATN (R233). Decisions: D9 errs "toward unprovable (fewer retries means more errors)"; D17 errs "neither". -/
def execDepResAtn (_low : Pni) (did nad : Option Byte) (_trail : List Byte) (s : State) : Result :=
  onDepRes did nad initiatorAtn s

/-- DEP_RES.RTOX (R234). Decisions: D8 errs "neither (fixed by scenarios)"; D14 errs "neither (opaque to the model)". -/
def execDepResRtox (_low : Pni) (did nad : Option Byte) (v : Byte) (_trail : List Byte) (s : State) : Result :=
  onDepRes did nad (initiatorRtox v) s

end Sys2Proof.Machine
end

