-- ==== Sys2Proof/Machine/DepTarget.lean ====
section
/-! DEFINITION. The family DEP_REQ: the five request classes as the Target processes them (44_dep_target.md R263 to
R274). -/

namespace Sys2Proof.Machine

/-- The front of every DEP_REQ (R206, R208, R263): queued in `T_WAIT_ACT_COMPLETION`; in the two data states ignored if
its header disagrees with the session, else dispatched; unexpected in any other state. Decisions: D15 errs "toward
proving for properties of the Target's reactions; revisit first"; D29 errs "neither". -/
def onDepReq (frame : List Byte) (did nad : Option Byte) (inDepRx inAwaitRtox : State → Result) (s : State) : Result :=
  if s.st = .tWaitActCompletion then queueRequest frame s
  else if s.st = .tDepRx then
    if headerOk did nad s then inDepRx s else ignore s
  else if s.st = .tAwaitRtoxRes then
    if headerOk did nad s then inAwaitRtox s else ignore s
  else unexpected s

/-- Retransmit if something is recorded, else ignore (R265, R268, R269, R274, log 9). Decisions: D15 errs "toward
proving for properties of the Target's reactions; revisit first"; D17 errs "neither". -/
def retransmitOrIgnore (s : State) : Result :=
  if hasLastFrame s then ret .inProgress (retransmit s) else ignore s

/-- A repeated PDU after an ATN round: PNI is the previous one and the last PDU sent was an ATN (R265, R268 (b)).
Decisions: D15 errs "toward proving for properties of the Target's reactions; revisit first"; D16 errs "neither between
two engines; toward proving against a foreign peer"; D17 errs "neither". -/
def repeatAfterAtn (pni : Pni) (s : State) : Result :=
  if lastWasAtn s = true ∧ pniPrev pni s = true then retransmitOrIgnore s else ignore s

/-- Where an accepted block goes: the first block of a new request restarts the accumulator (R266). Decisions: D15 errs
"toward proving for properties of the Target's reactions; revisit first"; D23 errs "toward unprovable". -/
def rxBase (s : State) : Nat := if s.rxChaining then s.rxLen else 0

/-- The accepted block of R266 and R267: append at the base, clear the counters. Decisions: D15 errs "toward proving for
properties of the Target's reactions; revisit first"; D23 errs "toward unprovable". -/
def acceptBlockTarget (inf : List Byte) (s : State) : State := clearCounters (append inf { s with rxLen := rxBase s })

/-- DEP_REQ.I in `T_DEP_RX` past its header (R265, R266, R267). Decisions: D13 errs "toward unprovable"; D14 errs
"neither (opaque to the model)"; D15 errs "toward proving for properties of the Target's reactions; revisit first"; D16
errs "neither between two engines; toward proving against a foreign peer"; D17 errs "neither"; D23 errs "toward
unprovable". -/
def targetInfo (mi : Bool) (pni : Pni) (inf : List Byte) (s : State) : Result :=
  if s.txChaining = false ∧ pniOk pni s = true then
    if inf = [] ∧ emptyEn s = false then ignore s
    else if s.params.rxCap < rxBase s + inf.length then raise .bufferOverflow s
    else if mi then
      ret .chainingContinue
        (advancePni (sendDep .ack [] .noDeadline { acceptBlockTarget inf s with rxChaining := true }))
    else
      ret .done
        { emit (.timerStart (rtoxDelay s.wt)) (acceptBlockTarget inf s) with
          rxChaining := false, st := .tRespPending }
  else repeatAfterAtn pni s

/-- DEP_REQ.I in `T_AWAIT_RTOX_RES` (R274). Decisions: D15 errs "toward proving for properties of the Target's
reactions; revisit first"; D17 errs "neither". -/
def targetInfoAwaitingRtox (pni : Pni) (s : State) : Result :=
  if pniOk pni s then retransmitOrIgnore s else ignore s

/-- DEP_REQ.ACK in `T_DEP_RX` (R268). Decisions: D15 errs "toward proving for properties of the Target's reactions;
revisit first"; D16 errs "neither between two engines; toward proving against a foreign peer"; D17 errs "neither". -/
def targetAck (pni : Pni) (s : State) : Result :=
  if s.txChaining = true ∧ pniOk pni s = true then ret .inProgress { clearCounters s with st := .tDepTx }
  else repeatAfterAtn pni s

/-- DEP_REQ.ATN in either data state (R270). Decisions: D13 errs "toward unprovable"; D15 errs "toward proving for
properties of the Target's reactions; revisit first". -/
def targetAtn (s : State) : Result :=
  if atnEn s then ret .inProgress (sendDep .atn [] .noDeadline s) else ignore s

/-- DEP_REQ.RTOX in `T_AWAIT_RTOX_RES` (R273). Decisions: D14 errs "neither (opaque to the model)"; D15 errs "toward
proving for properties of the Target's reactions; revisit first". -/
def targetRtox (v : Byte) (s : State) : Result :=
  if v = s.lastRtoxValue then
    if s.txPending then ret .inProgress { s with txPending := false, st := .tDepTx }
    else ret .idle { emit (.timerStart (rtoxDelay s.wt)) s with st := .tRespPending }
  else ignore s

/-- DEP_REQ.I (R208, R265, R266, R267, R274). Decisions: D13 errs "toward unprovable"; D14 errs "neither (opaque to the
model)"; D15 errs "toward proving for properties of the Target's reactions; revisit first"; D16 errs "neither between
two engines; toward proving against a foreign peer"; D17 errs "neither"; D23 errs "toward unprovable". -/
def execDepReqI (mi : Bool) (pni : Pni) (did nad : Option Byte) (inf : List Byte) (s : State) : Result :=
  onDepReq (encode (.depReqI mi pni did nad inf)) did nad (targetInfo mi pni inf) (targetInfoAwaitingRtox pni) s

/-- DEP_REQ.ACK (R208, R268, R272). Decisions: D15 errs "toward proving for properties of the Target's reactions;
revisit first"; D16 errs "neither between two engines; toward proving against a foreign peer"; D17 errs "neither". -/
def execDepReqAck (pni : Pni) (did nad : Option Byte) (trail : List Byte) (s : State) : Result :=
  onDepReq (encode (.depReqAck pni did nad trail)) did nad (targetAck pni) ignore s

/-- DEP_REQ.NACK (R208, R269, R272): any PNI. Decisions: D15 errs "toward proving for properties of the Target's
reactions; revisit first"; D17 errs "neither". -/
def execDepReqNack (pni : Pni) (did nad : Option Byte) (trail : List Byte) (s : State) : Result :=
  onDepReq (encode (.depReqNack pni did nad trail)) did nad retransmitOrIgnore retransmitOrIgnore s

/-- DEP_REQ.ATN (R208, R270, R272). Decisions: D13 errs "toward unprovable"; D15 errs "toward proving for properties of
the Target's reactions; revisit first". -/
def execDepReqAtn (low : Pni) (did nad : Option Byte) (trail : List Byte) (s : State) : Result :=
  onDepReq (encode (.depReqAtn low did nad trail)) did nad targetAtn targetAtn s

/-- DEP_REQ.RTOX (R208, R271, R273). Decisions: D14 errs "neither (opaque to the model)"; D15 errs "toward proving for
properties of the Target's reactions; revisit first". -/
def execDepReqRtox (low : Pni) (did nad : Option Byte) (v : Byte) (trail : List Byte) (s : State) : Result :=
  onDepReq (encode (.depReqRtox low did nad v trail)) did nad ignore (targetRtox v) s

end Sys2Proof.Machine
end

