-- ==== Sys2Proof/Machine/Dispatch.lean ====
section
/-! DEFINITION. The meaning of each instruction: what the engine does in the step that receives that frame, in whatever
state it is. -/

namespace Sys2Proof.Machine

def exec (i : Instr) (s : State) : Host.Outcome State Fault Refusal :=
  match i with
  | .atrReq nfcid3 did bs br pp gb => Sys2Proof.Machine.execAtrReq nfcid3 did bs br pp gb s
  | .atrRes nfcid3 did bs br tob pp gb => Sys2Proof.Machine.execAtrRes nfcid3 did bs br tob pp gb s
  | .pslReq did brs fsl => Sys2Proof.Machine.execPslReq did brs fsl s
  | .pslRes body => Sys2Proof.Machine.execPslRes body s
  | .depReqI mi pni did nad inf => Sys2Proof.Machine.execDepReqI mi pni did nad inf s
  | .depReqAck pni did nad trail => Sys2Proof.Machine.execDepReqAck pni did nad trail s
  | .depReqNack pni did nad trail => Sys2Proof.Machine.execDepReqNack pni did nad trail s
  | .depReqAtn low did nad trail => Sys2Proof.Machine.execDepReqAtn low did nad trail s
  | .depReqRtox low did nad v trail => Sys2Proof.Machine.execDepReqRtox low did nad v trail s
  | .depResI mi pni did nad inf => Sys2Proof.Machine.execDepResI mi pni did nad inf s
  | .depResAck pni did nad trail => Sys2Proof.Machine.execDepResAck pni did nad trail s
  | .depResNack pni did nad trail => Sys2Proof.Machine.execDepResNack pni did nad trail s
  | .depResAtn low did nad trail => Sys2Proof.Machine.execDepResAtn low did nad trail s
  | .depResRtox low did nad v trail => Sys2Proof.Machine.execDepResRtox low did nad v trail s
  | .dslReq did trail => Sys2Proof.Machine.execDslReq did trail s
  | .dslRes did trail => Sys2Proof.Machine.execDslRes did trail s
  | .rlsReq did trail => Sys2Proof.Machine.execRlsReq did trail s
  | .rlsRes did trail => Sys2Proof.Machine.execRlsRes did trail s

end Sys2Proof.Machine
end

