-- ==== Sys2Proof/Machine/Commands.lean ====
section
/-! DEFINITION. The five host commands (42_activation.md R180, R200; 43_dep_initiator.md R220; 44_dep_target.md R280;
45_deactivation.md R300, R301) and the RTOX delay timer's expiry (R283). -/

namespace Sys2Proof.Machine

/-- The General Bytes of an Initiator: "cfg.general_bytes if non-empty, else atr_param.gb" (R180). Decisions: D21 errs
"toward unprovable"; D24 errs "neither". -/
def chosenGb (cfg : HostConfig) (atr : AtrParam) : List Byte :=
  if cfg.generalBytes = [] then atr.gb else cfg.generalBytes

/-- The operand checks of `INIT_ACTIVATE` (R180). Decisions: D21 errs "toward unprovable"; D24 errs "neither"; D35
errs "toward unprovable". -/
def initParamsOk (p : Config.Params) (cfg : HostConfig) (atr : AtrParam) (desiredBr : Nat) : Bool :=
  cfg.role == .initiator && cfg.did.toNat ≤ p.didMax && cfg.nad == 0 && cfg.lr ≤ 3 &&
    (chosenGb cfg atr).length ≤ Config.gbMax && atr.nfcid.length ≤ Config.nfcid3Len && desiredBr ≤ 7

/-- The registers `INIT_ACTIVATE` loads after the activation reset (R180). Decisions: D21 errs "toward unprovable"; D22
errs "neither"; D24 errs "neither"; D35 errs "toward unprovable". -/
def loadInitiator (cfg : HostConfig) (atr : AtrParam) (desiredBr : Nat) (s : State) : State :=
  { resetRegisters s with
    role := .initiator
    commMode := cfg.commMode
    did := cfg.did
    nad := 0
    lr := BitVec.ofNat 2 cfg.lr
    oper := cfg.operationFlags
    bitrateSend := cfg.bitrateSend
    bitrateRecv := cfg.bitrateRecv
    desiredBr := BitVec.ofNat 3 desiredBr
    nfcid3Local := padNfcid atr.nfcid
    ownBs := lowNibble atr.brMask
    ownBr := lowNibble atr.brMask
    gbLocal := chosenGb cfg atr
    st := .iSendAtr }

/-- `INIT_ACTIVATE`, in any state (R180). Decisions: D21 errs "toward unprovable"; D24 errs "neither"; D35 errs "toward
unprovable". -/
def cmdInitActivate (cfg : HostConfig) (atr : AtrParam) (desiredBr : Nat) (s : State) : Result :=
  if initParamsOk s.params cfg atr desiredBr then ret .inProgress (loadInitiator cfg atr desiredBr s)
  else hostError .badParam s

/-- The operand checks of `TARG_LISTEN` (R200). Decisions: D21 errs "toward unprovable"; D24 errs "neither"; D35 errs
"toward unprovable". -/
def targParamsOk (cfg : HostConfig) (l : ListenParam) : Bool :=
  cfg.role == .target && cfg.lr ≤ 3 && cfg.generalBytes.length ≤ Config.gbMax &&
    l.nfcid.length ≤ Config.nfcid3Len && l.wt ≤ 15

/-- The registers `TARG_LISTEN` loads after the activation reset (R200). "cfg.did is not used by a Target". Decisions:
D21 errs "toward unprovable"; D22 errs "neither"; D24 errs "neither"; D26 errs "neither (opaque)"; D35 errs "toward
unprovable". -/
def loadTarget (cfg : HostConfig) (l : ListenParam) (s : State) : State :=
  { resetRegisters s with
    role := .target
    commMode := cfg.commMode
    nad := cfg.nad
    lr := BitVec.ofNat 2 cfg.lr
    oper := cfg.operationFlags
    wt := capWt l.wt s.params.wtTrgMax
    bitrateSend := cfg.bitrateSend
    bitrateRecv := cfg.bitrateRecv
    nfcid3Local := padNfcid l.nfcid
    ownBs := lowNibble l.brMask
    ownBr := lowNibble l.brMask
    gbLocal := cfg.generalBytes
    st := .tWaitAtr }

/-- `TARG_LISTEN`, in any state (R200). Decisions: D21 errs "toward unprovable"; D24 errs "neither"; D35 errs "toward
unprovable". -/
def cmdTargListen (cfg : HostConfig) (l : ListenParam) (s : State) : Result :=
  if targParamsOk cfg l then ret .inProgress (emit (.rfRx .noDeadline) (loadTarget cfg l s))
  else hostError .badParam s

/-- The operand checks of `EXCHANGE` (R220, R280). Decisions: D13 errs "toward unprovable"; D21 errs "toward
unprovable"; D23 errs "toward unprovable". -/
def exchangeOk (data : List Byte) (s : State) : Bool :=
  data.length ≤ s.params.txCap && (!data.isEmpty || emptyEn s)

/-- `EXCHANGE` in `I_ACTIVE` (R220). Decisions: D21 errs "toward unprovable"; D22 errs "neither". -/
def startExchangeInitiator (data : List Byte) (s : State) : State :=
  { clearCounters (loadTxBuf data s) with rxLen := 0, rxChaining := false, st := .iDepTx }

/-- `EXCHANGE` in `T_RESP_PENDING` (R280). Decisions: D15 errs "toward proving for properties of the Target's reactions;
revisit first"; D21 errs "toward unprovable". -/
def startExchangeTarget (data : List Byte) (s : State) : State :=
  { emit .timerStop (clearCounters (loadTxBuf data s)) with st := .tDepTx }

/-- `EXCHANGE` in `T_AWAIT_RTOX_RES` (R280): sent when the RTOX response arrives. Decisions: D15 errs "toward proving
for properties of the Target's reactions; revisit first"; D21 errs "toward unprovable". -/
def deferExchangeTarget (data : List Byte) (s : State) : State := { loadTxBuf data s with txPending := true }

/-- `EXCHANGE(data)`: `WrongState` before `BadParam` (R220, R280, 60_exceptions.md R330). Three states take it, and each
other answers WrongState. "A host must not issue a second EXCHANGE before the first has ended; the engine enforces this
with Err(WrongState)" (70_reset_and_hazards.md R373): so does `T_AWAIT_RTOX_RES` with a response pending, which R280 does
not test (log 23). Decisions: D13 errs "toward unprovable"; D15 errs "toward proving for properties of the Target's
reactions; revisit first"; D21 errs "toward unprovable"; D23 errs "toward unprovable". -/
def cmdExchange (data : List Byte) (s : State) : Result :=
  match s.st with
  | .iActive =>
    if exchangeOk data s then ret .inProgress (startExchangeInitiator data s) else hostError .badParam s
  | .tRespPending =>
    if exchangeOk data s then ret .inProgress (startExchangeTarget data s) else hostError .badParam s
  | .tAwaitRtoxRes =>
    if s.txPending then hostError .wrongState s
    else if exchangeOk data s then ret .inProgress (deferExchangeTarget data s) else hostError .badParam s
  | .idle => hostError .wrongState s
  | .iSendAtr => hostError .wrongState s
  | .iAwaitAtrRes => hostError .wrongState s
  | .iSendPsl => hostError .wrongState s
  | .iAwaitPslRes => hostError .wrongState s
  | .iDepTx => hostError .wrongState s
  | .iDepRx => hostError .wrongState s
  | .iSendDsl => hostError .wrongState s
  | .iAwaitDslRes => hostError .wrongState s
  | .iSendRls => hostError .wrongState s
  | .iAwaitRlsRes => hostError .wrongState s
  | .tWaitAtr => hostError .wrongState s
  | .tSendAtrRes => hostError .wrongState s
  | .tWaitActCompletion => hostError .wrongState s
  | .tDepRx => hostError .wrongState s
  | .tDepTx => hostError .wrongState s
  | .tSleep => hostError .wrongState s

/-- `DESELECT` (R300): accepted in `I_ACTIVE` only. Decision D21 errs "toward unprovable". -/
def cmdDeselect (s : State) : Result :=
  if s.st = .iActive then ret .inProgress { s with st := .iSendDsl } else hostError .wrongState s

/-- `RELEASE` (R301): accepted in `I_ACTIVE` only. Decision D21 errs "toward unprovable". -/
def cmdRelease (s : State) : Result :=
  if s.st = .iActive then ret .inProgress { s with st := .iSendRls } else hostError .wrongState s

/-- A host command (00_scope.md R10). Decision D21 errs "toward unprovable". -/
def command (c : Cmd) (s : State) : Result :=
  match c with
  | .initActivate cfg atr desiredBr => cmdInitActivate cfg atr desiredBr s
  | .targListen cfg listen => cmdTargListen cfg listen s
  | .exchange data => cmdExchange data s
  | .deselect => cmdDeselect s
  | .release => cmdRelease s

/-- `TimerExpired` in `T_RESP_PENDING` (R283): request more time, or a hard Timeout where that is disabled. Decisions:
D8 errs "neither (fixed by scenarios)"; D10 errs "neither"; D13 errs "toward unprovable"; D14 errs "neither (opaque to
the model)"; D15 errs "toward proving for properties of the Target's reactions; revisit first". -/
def timerExpiry (s : State) : Result :=
  if rtoxReqEn s then
    withRetry .rtox (raise .protocolError)
      (fun s1 =>
        ret .inProgress { sendDep .rtox [rtoxReqValue s1] .noDeadline s1 with st := .tAwaitRtoxRes }) s
  else raise .timeout s

end Sys2Proof.Machine
end

