-- ==== Sys2Proof/Machine/Fetch.lean ====
section
/-! DEFINITION. From a state to the work of its next step: the input consumed (00_scope.md R7), and either the
instruction it brings or the outcome of an input that brings none. -/

namespace Sys2Proof.Machine

/-- The work of a step. -/
inductive Work where
  /-- Run an instruction on a state. -/
  | run (i : Instr) (s : State)
  /-- The input brings no instruction; this is the step's outcome. -/
  | finished (r : Result)
  deriving Repr

/-- The input of the next step: the oldest the environment has presented, or a `Poll` where it has presented none (log
1). Decision D40 errs "toward unprovable". -/
def nextInput (s : State) : StepInput := s.inputs.headD { input := .poll }

/-- The state a step works on: its input consumed, its action list empty (log 1, log 2). Decision D40 errs "toward
unprovable". -/
def beginStep (s : State) : State := { s with inputs := s.inputs.tail, actions := [] }

/-- A received frame: an instruction where it decodes, else one of the rejections. Decision D18 errs "neither". -/
def receiveFrame (bytes : List Byte) (s : State) : Work :=
  match decode bytes with
  | .ok i => .run i s
  | .error why => .finished (badFrame bytes why s)

/-- An input that is neither a command nor an RF result and that the timer state does not take: `Poll`, or a discarded
`TimerExpired`. A request queued in `T_DEP_RX` "is processed exactly as if the input were Rf(RxOk(S.pending_req))"
(44_dep_target.md R260). Decisions: D15 errs "toward proving for properties of the Target's reactions; revisit first";
D40 errs "toward unprovable". -/
def pollWork (s : State) : Work :=
  if s.st = .tDepRx ∧ s.pendingReq ≠ [] then receiveFrame s.pendingReq { s with pendingReq := [] }
  else .finished (tick s)

/-- The work of one input (R7). An `Rf` input is processed by the state's own rules even while a request is queued
(log 8). Decisions: D1 errs "toward unprovable (the environment is unconstrained beyond rule R366)"; D40 errs "toward
unprovable". -/
def workOf (input : Input) (deactPending : Bool) (s : State) : Work :=
  match input with
  | .poll => pollWork s
  | .cmd c => .finished (command c s)
  | .rf (.ok bytes) => receiveFrame bytes s
  | .rf (.err e n) => .finished (rfError e n deactPending s)
  | .timerExpired => if s.st = .tRespPending then .finished (timerExpiry s) else pollWork s

/-- The work of the next step. Decision D40 errs "toward unprovable". -/
def fetch (s : State) : Work := workOf (nextInput s).input (nextInput s).deactPending (beginStep s)

/-! ### Placing a frame where the next step fetches it (log 6) -/

/-- The states that take a frame kind as one they expect (R183, R192, R201 to R206, R223, R263, R303, R304). Decision D2
errs "toward unprovable". -/
def takesKind (k : FrameKind) (st : St) : Bool :=
  match k with
  | .atrReq => st == .tWaitAtr
  | .atrRes => st == .iAwaitAtrRes
  | .pslReq => st == .tWaitActCompletion
  | .pslRes => st == .iAwaitPslRes
  | .depReq => st == .tWaitActCompletion || st == .tDepRx || st == .tAwaitRtoxRes
  | .depRes => st == .iDepRx
  | .dslReq => st == .tWaitActCompletion || st == .tDepRx || st == .tAwaitRtoxRes
  | .dslRes => st == .iAwaitDslRes
  | .rlsReq => st == .tWaitActCompletion || st == .tDepRx || st == .tAwaitRtoxRes
  | .rlsRes => st == .iAwaitRlsRes

/-- The state in which reception of a frame kind is armed. -/
def armedSt (k : FrameKind) : St :=
  match k with
  | .atrReq => .tWaitAtr
  | .atrRes => .iAwaitAtrRes
  | .pslReq => .tWaitActCompletion
  | .pslRes => .iAwaitPslRes
  | .depReq => .tDepRx
  | .depRes => .iDepRx
  | .dslReq => .tDepRx
  | .dslRes => .iAwaitDslRes
  | .rlsReq => .tDepRx
  | .rlsRes => .iAwaitRlsRes

/-- Arm reception of a frame kind: `st` in a state that takes it, with the role and the `cfg_valid` of that state (R24,
R350). A state that takes it already is left alone. -/
def armFor (k : FrameKind) (s : State) : State :=
  if takesKind k s.st then s
  else
    { s with
      st := armedSt k
      role := if isInitiatorSt (armedSt k) then .initiator else .target
      cfgValid := isSessionSt (armedSt k) }

/-- `s` with a frame as the input its next step consumes. -/
def placeFrame (bytes : List Byte) (s : State) : State :=
  let armed := match frameKind bytes with
    | none => s
    | some k => armFor k s
  { armed with inputs := { input := .rf (.ok bytes) } :: armed.inputs }

end Sys2Proof.Machine
end

