-- ==== Sys2Proof/Machine/Step.lean ====
section
/-! DEFINITION. One step (00_scope.md R7): consume one input; an instruction is run by `exec`. -/

namespace Sys2Proof.Machine

/-- One step: "one step(params, S, input, deact_pending) -> (S', actions, status)", which a host iterates (R7, R11).
Decisions: D1 errs "toward unprovable (the environment is unconstrained beyond rule R366)"; D38 errs "neither"; D40 errs
"toward unprovable". -/
def step (s : State) : Host.Outcome State Fault Refusal :=
  match fetch s with
  | .run i s' => exec i s'
  | .finished r => r

/-- `s` with an opcode-table word's frame where the next step fetches it, and reception armed for it (log 6, log 7). -/
def State.withFetchWord (s : State) (nbits w : Nat) : State := placeFrame (frameOfTableWord nbits w) s

end Sys2Proof.Machine
end

