-- ==== Sys2Proof/Safety.lean ====
section
/-! DEFINITION. What a safe run is, in the terms the statements use: the invariants of the register file and of the buffer
spaces, and what can be said of the actions of a step. -/

namespace Sys2Proof.Machine

/-- "`S.role` and the `I_`/`T_` prefix of `st` always agree" (60_exceptions.md R350). -/
structure RoleInv (s : State) : Prop where
  initiator : isInitiatorSt s.st = true → s.role = .initiator
  target : isTargetSt s.st = true → s.role = .target

/-- `cfg_valid` is true exactly in the states of a session (10_state.md R24). -/
def SessionInv (s : State) : Prop := s.cfgValid = isSessionSt s.st

/-- The CMD_TYPE byte a role sends (30_encoding.md R82). -/
def sentType (r : Role) : Byte :=
  match r with
  | .initiator => Config.cmdTypeReq
  | .target => Config.cmdTypeRes

/-- The ranges of the registers and the registers that have a meaning in some states only (10_state.md R27, R28, R31, R33,
R36, R40, R41, R42). -/
structure RegisterInv (s : State) : Prop where
  did_le : s.did.toNat ≤ s.params.didMax
  nad_zero : s.role = .initiator → s.nad = 0
  wt_initiator : s.role = .initiator → s.wt.toNat ≤ s.params.wtIniMax
  wt_target : s.role = .target → s.wt.toNat ≤ s.params.wtTrgMax
  nfcid3_local : s.nfcid3Local.length = Config.nfcid3Len
  nfcid3_peer : s.nfcid3Peer.length = Config.nfcid3Len
  gb_local : s.gbLocal.length ≤ Config.gbMax
  gb_peer : s.gbPeer.length ≤ Config.gbMax
  tx_pending : s.txPending = true → s.st = .tAwaitRtoxRes
  pending_role : s.pendingReq ≠ [] → s.role = .target
  pending_frame : s.pendingReq ≠ [] → lengthAgrees s.pendingReq = true
  recorded : s.st = .iDepRx ∨ s.st = .tAwaitRtoxRes → s.lastFrame ≠ []
  last_frame : s.lastFrame ≠ [] → lengthAgrees s.lastFrame = true
  last_type : s.lastFrame ≠ [] → s.lastFrame.getD 1 0 = sentType s.role
  rtox_value : s.st = .tAwaitRtoxRes → rtoxValid s.lastRtoxValue = true

/-- No counter exceeds its ceiling (41_sequencing_chaining_counters.md R154). -/
def CounterInv (s : State) : Prop := ∀ c, counterOf c s ≤ ceilingOf c s.params

/-- One buffer space: canonical, inside its capacity, and written below its valid length (20_memory.md R61, R62, R66). -/
structure BufferOk (m : Memory) (len cap : Nat) : Prop where
  canonical : m.wf = true
  len_le : len ≤ cap
  inside : ∀ a b, m.read a = some b → a < cap
  written : ∀ a, a < len → (m.read a).isSome = true

/-- Both buffer spaces, and `0 ≤ tx_off ≤ tx_len` (10_state.md R39). -/
structure BufferInv (s : State) : Prop where
  tx : BufferOk s.txBuf s.txLen s.params.txCap
  off_le : s.txOff ≤ s.txLen
  rx : BufferOk s.rxAcc s.rxLen s.params.rxCap

/-- The invariant of the machine. -/
structure Inv (s : State) : Prop where
  role : RoleInv s
  session : SessionInv s
  registers : RegisterInv s
  counters : CounterInv s
  buffers : BufferInv s

/-- A step that ends in a next state. -/
def Runs (s : State) : Prop := ∃ t, step s = .next t

/-- An RF action (00_scope.md R9). -/
def isRfAction : Action → Bool
  | .rfTxRx _ _ => true
  | .rfRx _ => true
  | .timerStart _ => false
  | .timerStop => false
  | .setBitRate _ _ => false
  | .updateDeviceRecord _ _ _ => false

/-- The bytes an action transmits. -/
def sentBytes : Action → Option (List Byte)
  | .rfTxRx bytes _ => some bytes
  | .rfRx _ => none
  | .timerStart _ => none
  | .timerStop => none
  | .setBitRate _ _ => none
  | .updateDeviceRecord _ _ _ => none

/-- The input is an activation command (10_state.md R22 (a)). -/
def isActivation : Input → Bool
  | .cmd (.initActivate _ _ _) => true
  | .cmd (.targListen _ _) => true
  | .cmd (.exchange _) => false
  | .cmd .deselect => false
  | .cmd .release => false
  | .poll => false
  | .rf _ => false
  | .timerExpired => false

/-- Where in `rx_acc` a frame stores, and how many bytes: the block of a DEP_RES.I after what is there (43_dep_initiator.md
R231, R232), the block of a DEP_REQ.I from the base of its request (44_dep_target.md R266, R267); no other frame stores. -/
def storedBlock (i : Instr) (s : State) : Nat × Nat :=
  match i with
  | .depResI _ _ _ _ inf => (s.rxLen, inf.length)
  | .depReqI _ _ _ _ inf => (rxBase s, inf.length)
  | .atrReq _ _ _ _ _ _ => (0, 0)
  | .atrRes _ _ _ _ _ _ _ => (0, 0)
  | .pslReq _ _ _ => (0, 0)
  | .pslRes _ => (0, 0)
  | .depReqAck _ _ _ _ => (0, 0)
  | .depReqNack _ _ _ _ => (0, 0)
  | .depReqAtn _ _ _ _ => (0, 0)
  | .depReqRtox _ _ _ _ _ => (0, 0)
  | .depResAck _ _ _ _ => (0, 0)
  | .depResNack _ _ _ _ => (0, 0)
  | .depResAtn _ _ _ _ => (0, 0)
  | .depResRtox _ _ _ _ _ => (0, 0)
  | .dslReq _ _ => (0, 0)
  | .dslRes _ _ => (0, 0)
  | .rlsReq _ _ => (0, 0)
  | .rlsRes _ _ => (0, 0)

/-- The five exchange counters are 0 (R153). -/
def exchangeCountersClear (s : State) : Prop :=
  s.txRetries = 0 ∧ s.timeoutRetries = 0 ∧ s.rtoxRetries = 0 ∧ s.nackRetries = 0 ∧ s.atnRetries = 0

/-- What `raise E` leaves (60_exceptions.md R340), written out: the action list, the aborted cycle, the landing.
Decision D19 errs "toward proving that a session is usable after an error; a stricter model may land in `IDLE` always".
-/
def raised (e : Err) (lands : St) (s : State) : State :=
  { s with
    actions := s.actions ++ (if lands = .tDepRx then [.timerStop, .rfRx .noDeadline] else [.timerStop])
    txPending := false
    pendingReq := []
    txChaining := false
    rxChaining := false
    st := lands
    cfgValid := s.cfgValid && lands != .idle
    status := .err e }

/-- What *Ignore* leaves (44_dep_target.md R261). -/
def rearmed (s : State) : State :=
  { s with actions := s.actions ++ [.rfRx .noDeadline], status := .inProgress }

/-- `s` about to consume `input`: the environment presents it ahead of whatever else is queued. -/
def presenting (input : Input) (deactPending : Bool) (s : State) : State :=
  { s with inputs := { input, deactPending } :: s.inputs }

/-- What the steps of an exchange leave of the outbound buffer: the blocks `next_block` yields until its MI bit is
clear, at most `fuel` of them (41_sequencing_chaining_counters.md R155, R158). Decision D5 errs "toward unprovable
(smaller blocks than a looser reading)". -/
def outboundBlocks : Nat → State → Option (List (List Byte))
  | 0, _ => none
  | fuel + 1, s =>
    match nextBlock s with
    | none => none
    | some (inf, mi, s') =>
      if mi then (outboundBlocks fuel s').map fun rest => inf :: rest else some [inf]

end Sys2Proof.Machine
end

