-- ==== Sys2Proof/Certificates/Slice0/Obligations.lean ====
section
/-! DEFINITION. The statements for the provers. Rules are those of spec/; a docstring that names a decision D<n> or a log
entry says that the clause is the spec's own choice, or the model's. -/

open Sys2Proof Sys2Proof.Machine

/-! ### Encoding -/

/-- Every well-formed frame is read back as the instruction it was written from, every operand at every value. Reading a
frame without a session is the model's choice (log 10). -/
def Obligations.DecodeOfEncodeIsTheInstruction : Prop :=
  ∀ i : Instr, i.wf = true → decode (encode i) = .ok i

/-- Bytes that decode are the encoding of what they decode to, and that is well-formed: no bit of a frame is dropped
(log 10). -/
def Obligations.EncodeOfDecodeIsTheFrame : Prop :=
  ∀ (bytes : List Byte) (i : Instr), decode bytes = .ok i → encode i = bytes ∧ i.wf = true

/-- Words written out from the tables of R85, R91, R96, R99 and R114 (the ATR_REQ is V-C1), one or more per family,
decode to their rows: a PFB with both, either and neither of its NAD and DID bits; two words of no row decode to
nothing. -/
def Obligations.WordsDecodeToTheirRows : Prop :=
  decode [0x14, 0xD4, 0x00, 0x01, 0x02, 0x03, 0x04, 0x05, 0x06, 0x07, 0x08, 0x09, 0x0A, 0x00, 0x00, 0x00, 0x32, 0x46,
      0x66, 0x6D] =
      .ok (.atrReq [0x01, 0x02, 0x03, 0x04, 0x05, 0x06, 0x07, 0x08, 0x09, 0x0A] 0x00 0x00 0x00 0x32
        [0x46, 0x66, 0x6D]) ∧
    decode [0x06, 0xD4, 0x04, 0x00, 0x12, 0x03] = .ok (.pslReq (some 0x00) 0x12 0x03) ∧
    decode [0x07, 0xD5, 0x07, 0x0E, 0x03, 0x07, 0xAA] = .ok (.depResI false 2 (some 0x03) (some 0x07) [0xAA]) ∧
    decode [0x06, 0xD4, 0x06, 0x15, 0x03, 0xAA] = .ok (.depReqI true 1 (some 0x03) none [0xAA]) ∧
    decode [0x06, 0xD5, 0x07, 0x0A, 0x07, 0xAA] = .ok (.depResI false 2 none (some 0x07) [0xAA]) ∧
    decode [0x06, 0xD5, 0x07, 0x94, 0x03, 0x3B] = .ok (.depResRtox 0 (some 0x03) none 0x3B []) ∧
    decode [0x04, 0xD4, 0x06, 0x52] = .ok (.depReqNack 2 none none []) ∧
    decode [0x05, 0xD5, 0x07, 0x90, 0x3B] = .ok (.depResRtox 0 none none 0x3B []) ∧
    decode [0x04, 0xD4, 0x08, 0x03] = .ok (.dslReq (some 0x03) []) ∧
    decode [0x04, 0xD5, 0x07, 0xE0] = .error .reservedPfb ∧
    decode [0x04, 0xD5, 0x03, 0x00] = .error .unknownCommand

/-- Bytes are Malformed exactly when their length is illegal or LEN disagrees (R105), and receiving them is receiving a
transmission error; its class Framing and its length are R324's (decision D18). -/
def Obligations.MalformedFramesAreTransmissionErrors : Prop :=
  (∀ bytes : List Byte,
      decode bytes = .error .malformed ↔
        bytes.length < 3 ∨ 255 < bytes.length ∨ (bytes.headD 0).toNat ≠ bytes.length) ∧
    ∀ (bytes : List Byte) (d : Bool) (s : State),
      decode bytes = .error .malformed →
        step (presenting (.rf (.ok bytes)) d s) =
          step (presenting (.rf (.err (.transmission .framing) bytes.length)) d s)

/-- The opcode map (R114, decision D3): the bytes after LEN of a well-formed frame match the row of its instruction,
and the `m`, `n`, `d` and `p` bits of a PFB are its MI bit, the presence of its NAD byte, the presence of its DID byte
and its PNI. -/
def Obligations.EncodingsMatchTheOpcodeMap : Prop :=
  ∀ i : Instr, i.wf = true →
    let t := (encode i).getD 1 0
    let c := (encode i).getD 2 0
    let pfb := (encode i).getD 3 0
    match i with
    | .atrReq _ _ _ _ _ _ => t = 0xD4 ∧ c = 0x00
    | .atrRes _ _ _ _ _ _ _ => t = 0xD5 ∧ c = 0x01
    | .pslReq _ _ _ => t = 0xD4 ∧ c = 0x04
    | .pslRes _ => t = 0xD5 ∧ c = 0x05
    | .depReqI mi pni did nad _ => t = 0xD4 ∧ c = 0x06 ∧ pfb &&& 0xE0 = 0x00 ∧ pfb.getLsbD 4 = mi ∧
        pfb.extractLsb' 0 2 = pni ∧ pfb.getLsbD 3 = nad.isSome ∧ pfb.getLsbD 2 = did.isSome
    | .depReqAck pni did nad _ => t = 0xD4 ∧ c = 0x06 ∧ pfb &&& 0xF0 = 0x40 ∧ pfb.extractLsb' 0 2 = pni ∧
        pfb.getLsbD 3 = nad.isSome ∧ pfb.getLsbD 2 = did.isSome
    | .depReqNack pni did nad _ => t = 0xD4 ∧ c = 0x06 ∧ pfb &&& 0xF0 = 0x50 ∧ pfb.extractLsb' 0 2 = pni ∧
        pfb.getLsbD 3 = nad.isSome ∧ pfb.getLsbD 2 = did.isSome
    | .depReqAtn low did nad _ => t = 0xD4 ∧ c = 0x06 ∧ pfb &&& 0xF0 = 0x80 ∧ pfb.extractLsb' 0 2 = low ∧
        pfb.getLsbD 3 = nad.isSome ∧ pfb.getLsbD 2 = did.isSome
    | .depReqRtox low did nad _ _ => t = 0xD4 ∧ c = 0x06 ∧ pfb &&& 0xF0 = 0x90 ∧ pfb.extractLsb' 0 2 = low ∧
        pfb.getLsbD 3 = nad.isSome ∧ pfb.getLsbD 2 = did.isSome
    | .depResI mi pni did nad _ => t = 0xD5 ∧ c = 0x07 ∧ pfb &&& 0xE0 = 0x00 ∧ pfb.getLsbD 4 = mi ∧
        pfb.extractLsb' 0 2 = pni ∧ pfb.getLsbD 3 = nad.isSome ∧ pfb.getLsbD 2 = did.isSome
    | .depResAck pni did nad _ => t = 0xD5 ∧ c = 0x07 ∧ pfb &&& 0xF0 = 0x40 ∧ pfb.extractLsb' 0 2 = pni ∧
        pfb.getLsbD 3 = nad.isSome ∧ pfb.getLsbD 2 = did.isSome
    | .depResNack pni did nad _ => t = 0xD5 ∧ c = 0x07 ∧ pfb &&& 0xF0 = 0x50 ∧ pfb.extractLsb' 0 2 = pni ∧
        pfb.getLsbD 3 = nad.isSome ∧ pfb.getLsbD 2 = did.isSome
    | .depResAtn low did nad _ => t = 0xD5 ∧ c = 0x07 ∧ pfb &&& 0xF0 = 0x80 ∧ pfb.extractLsb' 0 2 = low ∧
        pfb.getLsbD 3 = nad.isSome ∧ pfb.getLsbD 2 = did.isSome
    | .depResRtox low did nad _ _ => t = 0xD5 ∧ c = 0x07 ∧ pfb &&& 0xF0 = 0x90 ∧ pfb.extractLsb' 0 2 = low ∧
        pfb.getLsbD 3 = nad.isSome ∧ pfb.getLsbD 2 = did.isSome
    | .dslReq _ _ => t = 0xD4 ∧ c = 0x08
    | .dslRes _ _ => t = 0xD5 ∧ c = 0x09
    | .rlsReq _ _ => t = 0xD4 ∧ c = 0x0A
    | .rlsRes _ _ => t = 0xD5 ∧ c = 0x0B

/-- A DEP frame the engine builds (R132) is the frame a peer decodes to the same PDU: type by role, the session's DID
and NAD present exactly when they are not 0 (R86), the engine's PNI in I- and R-PDUs and 0 in S-PDUs. Decision D3. -/
def Obligations.BuiltDepFramesDecodeToTheirPdu : Prop :=
  ∀ s : State,
    (s.role = .initiator →
        (∀ mi inf, inf.length ≤ maxInf s →
            decode (encodeDep (.info mi) inf s) = .ok (.depReqI mi s.pni (optByte s.did) (optByte s.nad) inf)) ∧
          decode (encodeDep .ack [] s) = .ok (.depReqAck s.pni (optByte s.did) (optByte s.nad) []) ∧
          decode (encodeDep .nack [] s) = .ok (.depReqNack s.pni (optByte s.did) (optByte s.nad) []) ∧
          decode (encodeDep .atn [] s) = .ok (.depReqAtn 0 (optByte s.did) (optByte s.nad) []) ∧
          ∀ v, decode (encodeDep .rtox [v] s) = .ok (.depReqRtox 0 (optByte s.did) (optByte s.nad) v [])) ∧
      (s.role = .target →
        (∀ mi inf, inf.length ≤ maxInf s →
            decode (encodeDep (.info mi) inf s) = .ok (.depResI mi s.pni (optByte s.did) (optByte s.nad) inf)) ∧
          decode (encodeDep .ack [] s) = .ok (.depResAck s.pni (optByte s.did) (optByte s.nad) []) ∧
          decode (encodeDep .nack [] s) = .ok (.depResNack s.pni (optByte s.did) (optByte s.nad) []) ∧
          decode (encodeDep .atn [] s) = .ok (.depResAtn 0 (optByte s.did) (optByte s.nad) []) ∧
          ∀ v, decode (encodeDep .rtox [v] s) = .ok (.depResRtox 0 (optByte s.did) (optByte s.nad) v []))

/-- R135: the four deactivation frames, with and without a DID. -/
def Obligations.DeactivationFramesAsBuilt : Prop :=
  ∀ s : State,
    encodeDeact .dslReq s = (if s.did = 0 then [0x03, 0xD4, 0x08] else [0x04, 0xD4, 0x08, s.did]) ∧
      encodeDeact .dslRes s = (if s.did = 0 then [0x03, 0xD5, 0x09] else [0x04, 0xD5, 0x09, s.did]) ∧
      encodeDeact .rlsReq s = (if s.did = 0 then [0x03, 0xD4, 0x0A] else [0x04, 0xD4, 0x0A, s.did]) ∧
      encodeDeact .rlsRes s = (if s.did = 0 then [0x03, 0xD5, 0x0B] else [0x04, 0xD5, 0x0B, s.did])

/-! ### Sequencing, counters, chaining -/

/-- PNI arithmetic is modulo 4 (R150), and every verified block moves PNI on by one: at an Initiator an accepted
response, at a Target the answer to a chained request block and the transmission of a response block (decision
D16). -/
def Obligations.PniCountsVerifiedBlocksModuloFour : Prop :=
  (∀ p : Pni, (pniInc p).toNat = (p.toNat + 1) % 4 ∧ (pniDec p).toNat = (p.toNat + 3) % 4) ∧
    (∀ (i : Instr) (s t : State), s.st = .iDepRx → exec i s = .next t →
      t.status = .done ∨ t.status = .chainingContinue ∨ t.st = .iDepTx → t.pni.toNat = (s.pni.toNat + 1) % 4) ∧
    (∀ (i : Instr) (s t : State), s.st = .tDepRx → exec i s = .next t →
      t.status = .chainingContinue → t.pni.toNat = (s.pni.toNat + 1) % 4) ∧
    ∀ (s t : State), s.st = .tDepTx → tick s = .next t → t.pni.toNat = (s.pni.toNat + 1) % 4

/-- R153: `clear_counters` zeroes the five exchange counters and nothing else; it happens at every successful block
exchange (R228, R231, R232, R266, R267, R268) and at the start of an exchange (R220, R280). -/
def Obligations.CountersClearAtBlockAndExchange : Prop :=
  (∀ s : State, clearCounters s =
      { s with txRetries := 0, timeoutRetries := 0, rtoxRetries := 0, nackRetries := 0, atnRetries := 0 }) ∧
    (∀ (i : Instr) (s t : State), s.st = .iDepRx → exec i s = .next t →
      t.status = .done ∨ t.status = .chainingContinue ∨ t.st = .iDepTx → exchangeCountersClear t) ∧
    (∀ (i : Instr) (s t : State), s.st = .tDepRx → exec i s = .next t →
      t.status = .done ∨ t.status = .chainingContinue ∨ t.st = .tDepTx → exchangeCountersClear t) ∧
    ∀ (data : List Byte) (s t : State), s.st = .iActive ∨ s.st = .tRespPending →
      cmdExchange data s = .next t → t.status = .inProgress → exchangeCountersClear t

/-- The legal RTOX values are 1 to 59 (R162); a Target requests no other (decision D14); an Initiator that receives
another raises ProtocolError. -/
def Obligations.RtoxValuesStayInRange : Prop :=
  (∀ v : Byte, rtoxValid v = true ↔ 1 ≤ v.toNat ∧ v.toNat ≤ 59) ∧
    (∀ s : State, 1 ≤ (rtoxReqValue s).toNat ∧ (rtoxReqValue s).toNat ≤ 59) ∧
    ∀ (low : Pni) (v : Byte) (trail : List Byte) (s : State),
      s.st = .iDepRx → ¬ (1 ≤ v.toNat ∧ v.toNat ≤ 59) →
        exec (.depResRtox low (optByte s.did) (optByte s.nad) v trail) s = .next (raised .protocolError .iActive s)

/-- The round-trip law (20_memory.md R65): the payload lies in `tx_buf` byte by byte; the blocks of an exchange, in
order, make it up again, each within `max_inf` and as many as R156 counts (decision D5); appended in order to an empty
accumulator they give exactly the payload. -/
def Obligations.ChainingReconstructsThePayload : Prop :=
  ∀ (data : List Byte) (s : State),
    (∀ j, j < data.length → (loadTxBuf data s).txBuf.read j = data[j]?) ∧
      ∃ blocks : List (List Byte),
        outboundBlocks (data.length + 1) (loadTxBuf data s) = some blocks ∧
          blocks.flatten = data ∧
          (∀ b ∈ blocks, b.length ≤ maxInf s) ∧
          blocks.length = max 1 ((data.length + maxInf s - 1) / maxInf s) ∧
          ∀ r : State, r.rxLen = 0 →
            let r' := blocks.foldl (fun r b => append b r) r
            r'.rxLen = data.length ∧ r'.rxAcc.readBytes 0 data.length = some data

/-- The memory frame of every instruction: no frame changes `tx_buf`, and outside the block a DEP I-PDU stores every
byte of `rx_acc` reads as before (20_memory.md R61, R62). -/
def Obligations.FramesStoreOnlyTheirBlock : Prop :=
  ∀ (i : Instr) (s t : State), exec i s = .next t →
    (∀ a, t.txBuf.read a = s.txBuf.read a) ∧ t.txLen = s.txLen ∧
      ∀ a, a < (storedBlock i s).1 ∨ (storedBlock i s).1 + (storedBlock i s).2 ≤ a →
        t.rxAcc.read a = s.rxAcc.read a

/-! ### Reset, codes, the step -/

/-- Power-on reset (R46, R360; decision D31): the values the spec lists, and a first step that emits nothing and answers
Idle. The value of `last_deadline` is no part of it (log 5). -/
def Obligations.ResetLeavesTheListedValues : Prop :=
  let s := State.reset
  (s.st = .idle ∧ s.cfgValid = false ∧ s.role = .initiator ∧ s.commMode = .passive ∧ s.did = 0 ∧ s.nad = 0) ∧
    (s.bitrateSend = 0 ∧ s.bitrateRecv = 0 ∧ s.lr = 0 ∧ s.wt = 0 ∧ s.oper = 0) ∧
    (s.nfcid3Local = List.replicate 10 0 ∧ s.nfcid3Peer = List.replicate 10 0 ∧ s.gbLocal = [] ∧ s.gbPeer = [] ∧
      s.ownBs = 0 ∧ s.ownBr = 0 ∧ s.peerBs = 0 ∧ s.peerBr = 0 ∧ s.peerLr = 0 ∧ s.peerNadUsed = false ∧
      s.desiredBr = 0) ∧
    (s.pni = 0 ∧ s.txChaining = false ∧ s.rxChaining = false ∧ s.lastPfb = none ∧ s.lastPfbExcludingAtn = none ∧
      s.lastRtoxValue = 0) ∧
    (∀ c, counterOf c s = 0) ∧
    (s.txLen = 0 ∧ s.txOff = 0 ∧ s.rxLen = 0 ∧ s.lastFrame = [] ∧ s.pendingReq = [] ∧ s.txPending = false) ∧
    step s = .next { s with actions := [], status := .idle }

/-- The invariant holds after reset. -/
def Obligations.ResetMeetsTheInvariant : Prop := Inv State.reset

/-- A step whose input is a received frame that decodes is the instruction's meaning, on the state with that input
consumed and an empty action list (the queue of inputs is the model's, log 1). -/
def Obligations.StepRunsTheReceivedInstruction : Prop :=
  ∀ (bytes : List Byte) (i : Instr) (d : Bool) (s : State), decode bytes = .ok i →
    step (presenting (.rf (.ok bytes)) d s) = exec i { s with actions := [] }

/-- R260: in `T_DEP_RX` a queued request is processed by a `Poll`, or by the discarded `TimerExpired`, exactly as if
it were received in that step, and the queue is emptied. -/
def Obligations.QueuedRequestRunsAsIfReceived : Prop :=
  ∀ (input : Input) (d : Bool) (s : State), s.st = .tDepRx → s.pendingReq ≠ [] →
    input = .poll ∨ input = .timerExpired →
      step (presenting input d s) = step (presenting (.rf (.ok s.pendingReq)) d { s with pendingReq := [] })

/-! ### Activation -/

/-- `INIT_ACTIVATE` (R180; decisions D21, D24, D35): accepted from every state with the registers it loads over the
activation reset, else BadParam with no state change at all. -/
def Obligations.InitActivateLoadsOrRefuses : Prop :=
  ∀ (cfg : HostConfig) (atr : AtrParam) (br : Nat) (d : Bool) (s : State),
    let gb := if cfg.generalBytes = [] then atr.gb else cfg.generalBytes
    let ok := cfg.role = .initiator ∧ cfg.did.toNat ≤ s.params.didMax ∧ cfg.nad = 0 ∧ cfg.lr ≤ 3 ∧
      gb.length ≤ 48 ∧ atr.nfcid.length ≤ 10 ∧ br ≤ 7
    (ok → step (presenting (.cmd (.initActivate cfg atr br)) d s) =
        .next
          { State.reset with
            params := s.params
            inputs := s.inputs
            actions := []
            status := .inProgress
            role := .initiator
            commMode := cfg.commMode
            did := cfg.did
            lr := BitVec.ofNat 2 cfg.lr
            oper := cfg.operationFlags
            bitrateSend := cfg.bitrateSend
            bitrateRecv := cfg.bitrateRecv
            desiredBr := BitVec.ofNat 3 br
            nfcid3Local := atr.nfcid ++ List.replicate (10 - atr.nfcid.length) 0
            ownBs := atr.brMask.extractLsb' 0 4
            ownBr := atr.brMask.extractLsb' 0 4
            gbLocal := gb
            st := .iSendAtr }) ∧
      (¬ ok → step (presenting (.cmd (.initActivate cfg atr br)) d s) =
        .next { s with actions := [], status := .err .badParam })

/-- `TARG_LISTEN` (R200; decisions D21, D35): accepted from every state with the registers it loads over the activation
reset and reception armed, else BadParam with no state change. -/
def Obligations.TargListenLoadsOrRefuses : Prop :=
  ∀ (cfg : HostConfig) (l : ListenParam) (d : Bool) (s : State),
    let ok := cfg.role = .target ∧ cfg.lr ≤ 3 ∧ cfg.generalBytes.length ≤ 48 ∧ l.nfcid.length ≤ 10 ∧ l.wt ≤ 15
    (ok → step (presenting (.cmd (.targListen cfg l)) d s) =
        .next
          { State.reset with
            params := s.params
            inputs := s.inputs
            actions := [.rfRx .noDeadline]
            status := .inProgress
            role := .target
            commMode := cfg.commMode
            nad := cfg.nad
            lr := BitVec.ofNat 2 cfg.lr
            oper := cfg.operationFlags
            wt := BitVec.ofNat 4 (min l.wt s.params.wtTrgMax)
            bitrateSend := cfg.bitrateSend
            bitrateRecv := cfg.bitrateRecv
            nfcid3Local := l.nfcid ++ List.replicate (10 - l.nfcid.length) 0
            ownBs := l.brMask.extractLsb' 0 4
            ownBr := l.brMask.extractLsb' 0 4
            gbLocal := cfg.generalBytes
            st := .tWaitAtr }) ∧
      (¬ ok → step (presenting (.cmd (.targListen cfg l)) d s) =
        .next { s with actions := [], status := .err .badParam })

/-- ATR_REQ accepted in `T_WAIT_ATR` (R203, decision D35), with its whole frame. -/
def Obligations.AtrReqLoadsThePeer : Prop :=
  ∀ (nfcid3 : List Byte) (did bs br pp : Byte) (gb : List Byte) (s : State),
    s.st = .tWaitAtr → did.toNat ≤ s.params.didMax →
      exec (.atrReq nfcid3 did bs br pp gb) s =
        .next
          { s with
            nfcid3Peer := nfcid3
            gbPeer := gb
            did := did
            peerBs := bs.extractLsb' 0 4
            peerBr := br.extractLsb' 0 4
            peerLr := pp.extractLsb' 4 2
            peerNadUsed := pp.getLsbD 0
            pni := 0
            st := .tSendAtrRes
            status := .inProgress }

/-- ATR_RES accepted in `I_AWAIT_ATR_RES` (R189, R190; decisions D25, D26, D35), with its whole frame: on to PSL when
the desired rate differs and the peer supports it, else the session is active and the activation is done. -/
def Obligations.AtrResCompletesOrNegotiates : Prop :=
  ∀ (nfcid3 : List Byte) (bs br tob pp : Byte) (gb : List Byte) (s : State), s.st = .iAwaitAtrRes →
    let code := s.desiredBr.toNat
    let supported := code ≤ 2 ∨
      (code ≤ 6 ∧ (bs.extractLsb' 0 4).getLsbD (code - 3) = true ∧ (br.extractLsb' 0 4).getLsbD (code - 3) = true)
    let needPsl := (s.desiredBr ≠ s.bitrateSend ∨ s.desiredBr ≠ s.bitrateRecv) ∧ supported
    let t := { s with
      nfcid3Peer := nfcid3
      gbPeer := gb
      peerBs := bs.extractLsb' 0 4
      peerBr := br.extractLsb' 0 4
      peerLr := pp.extractLsb' 4 2
      peerNadUsed := pp.getLsbD 0
      lr := BitVec.ofNat 2 (min s.lr.toNat (pp.extractLsb' 4 2).toNat)
      wt := BitVec.ofNat 4 (min (tob.extractLsb' 0 4).toNat s.params.wtIniMax)
      pni := 0 }
    (needPsl → exec (.atrRes nfcid3 s.did bs br tob pp gb) s =
        .next { t with st := .iSendPsl, status := .inProgress }) ∧
      (¬ needPsl → exec (.atrRes nfcid3 s.did bs br tob pp gb) s =
        .next { t with cfgValid := true, st := .iActive, status := .done })

/-- R188: in `I_AWAIT_ATR_RES` a well-delimited frame that is no ATR_RES with the DID sent is fatal: ProtocolError,
`IDLE`, no retry. -/
def Obligations.InvalidAtrResIsFatal : Prop :=
  ∀ (bytes : List Byte) (d : Bool) (s : State), s.st = .iAwaitAtrRes → lengthAgrees bytes = true →
    (∀ nfcid3 bs br tob pp gb, decode bytes ≠ .ok (.atrRes nfcid3 s.did bs br tob pp gb)) →
      step (presenting (.rf (.ok bytes)) d s) = .next (raised .protocolError .idle { s with actions := [] })

/-- R204: in `T_WAIT_ATR` a well-delimited frame that is no ATR_REQ with a legal DID is a ProtocolError, `IDLE`, and no
response is sent. -/
def Obligations.InvalidAtrReqIsFatal : Prop :=
  ∀ (bytes : List Byte) (d : Bool) (s : State), s.st = .tWaitAtr → lengthAgrees bytes = true →
    (∀ nfcid3 did bs br pp gb, did.toNat ≤ s.params.didMax → decode bytes ≠ .ok (.atrReq nfcid3 did bs br pp gb)) →
      step (presenting (.rf (.ok bytes)) d s) = .next (raised .protocolError .idle { s with actions := [] })

/-- PSL_REQ in `T_WAIT_ACT_COMPLETION` (R206, R207, decision D7), with its whole frame: with the DID byte R96 asks for,
PSL_RES at the old rate, then the new rates and frame size at once; with another, ignored. -/
def Obligations.PslReqUpdatesTheTarget : Prop :=
  ∀ (did : Option Byte) (brs fsl : Byte) (s : State), s.st = .tWaitActCompletion →
    let due := if s.params.pslDidAlways then some s.did else optByte s.did
    let dsi := brs.extractLsb' 3 3
    let dri := brs.extractLsb' 0 3
    let recv := if s.params.brsDir = .dsiInitiatorToTarget then dsi else dri
    let send := if s.params.brsDir = .dsiInitiatorToTarget then dri else dsi
    let lr := fsl.extractLsb' 0 2
    exec (.pslReq did brs fsl) s =
      if did = due then
        .next
          { s with
            actions := s.actions ++
              [.rfTxRx (encode (.pslRes due.toList)) .noDeadline, .setBitRate send recv,
                .updateDeviceRecord (frameSize lr) send recv]
            bitrateRecv := recv
            bitrateSend := send
            lr := lr
            cfgValid := true
            st := .tDepRx
            status := .done }
      else .next (rearmed s)

/-- `I_AWAIT_PSL_RES` (R192, R193): a PSL_RES with the DID byte that is due, whatever follows it, is one atomic
update, with its whole frame, and the activation is done; any other well-delimited frame is a ProtocolError, `IDLE`.
The DID byte due is that of R96 (decision D7); that trailing bytes are ignored is decision D30 (log 12). -/
def Obligations.PslResCompletesActivationOrIsFatal : Prop :=
  ∀ (s : State), s.st = .iAwaitPslRes →
    let due := if s.params.pslDidAlways then some s.did else optByte s.did
    (∀ trail : List Byte,
        exec (.pslRes (due.toList ++ trail)) s =
          .next
            { s with
              actions := s.actions ++
                [.setBitRate s.desiredBr s.desiredBr, .updateDeviceRecord (frameSize s.lr) s.desiredBr s.desiredBr]
              bitrateSend := s.desiredBr
              bitrateRecv := s.desiredBr
              cfgValid := true
              st := .iActive
              status := .done }) ∧
      ∀ (bytes : List Byte) (d : Bool), lengthAgrees bytes = true →
        (∀ trail, decode bytes ≠ .ok (.pslRes (due.toList ++ trail))) →
          step (presenting (.rf (.ok bytes)) d s) = .next (raised .protocolError .idle { s with actions := [] })

/-- In `T_WAIT_ACT_COMPLETION` (R206, R208) any well-delimited DEP_REQ is queued as bytes; the activation is done and
no RF action is taken. That it is queued whatever its body is rests on R206 (decision D15) and is the model's reading
(log 24). -/
def Obligations.FirstDepReqIsQueued : Prop :=
  ∀ (bytes : List Byte) (d : Bool) (s : State), s.st = .tWaitActCompletion →
    lengthAgrees bytes = true → frameKind bytes = some .depReq →
      step (presenting (.rf (.ok bytes)) d s) =
        .next { s with actions := [], pendingReq := bytes, cfgValid := true, st := .tDepRx, status := .done }

/-! ### Data exchange, Initiator -/

/-- R222: `I_DEP_TX` sends the next block of the outbound buffer as an I-PDU with the session's PNI, and records it. -/
def Obligations.InitiatorSendsTheNextBlock : Prop :=
  ∀ (inf : List Byte) (s : State), s.st = .iDepTx → s.role = .initiator →
    s.txBuf.readBytes s.txOff (min (maxInf s) (s.txLen - s.txOff)) = some inf →
      let off := s.txOff + min (maxInf s) (s.txLen - s.txOff)
      let mi := decide (off < s.txLen)
      let f := encode (.depReqI mi s.pni (optByte s.did) (optByte s.nad) inf)
      ∀ (input : Input) (d : Bool), input = .poll ∨ input = .timerExpired ∨ (∃ r, input = .rf r) →
        step (presenting input d s) =
          .next
            { s with
              actions := [.rfTxRx f (depDeadline s)]
              txOff := off
              txChaining := mi
              lastPfb := some (f.getD 3 0)
              lastPfbExcludingAtn := some (f.getD 3 0)
              lastFrame := f
              lastDeadline := depDeadline s
              st := .iDepRx
              status := .inProgress }

/-- DEP_RES.ACK with the matching PNI (R228; decision D28 where the engine is not chaining), with its whole frame. -/
def Obligations.MatchingAckAdvances : Prop :=
  ∀ (trail : List Byte) (s : State), s.st = .iDepRx →
    exec (.depResAck s.pni (optByte s.did) (optByte s.nad) trail) s =
      .next
        { s with
          pni := s.pni + 1
          txRetries := 0
          timeoutRetries := 0
          rtoxRetries := 0
          nackRetries := 0
          atnRetries := 0
          st := if s.txChaining then .iDepTx else .iActive
          status := if s.txChaining then .inProgress else .done }

/-- Bounded retransmission (R229, R233; decisions D9, D17): an ACK with the previous PNI, or an ATN answering one's
own ATN, gets the last frame that was no ATN again, under `tx_retries`; past the ceiling, with no ATN outstanding, or
with no frame recorded (log 9), the error is ProtocolError. -/
def Obligations.RetransmissionIsBounded : Prop :=
  ∀ (low : Pni) (trail : List Byte) (s : State), s.st = .iDepRx →
    let again := { s with
      txRetries := s.txRetries + 1
      actions := s.actions ++ [.rfTxRx s.lastFrame s.lastDeadline]
      lastPfb := s.lastPfbExcludingAtn
      status := .inProgress }
    (exec (.depResAck (s.pni - 1) (optByte s.did) (optByte s.nad) trail) s =
        if s.lastFrame ≠ [] ∧ s.txRetries < s.params.txRetryMax then .next again
        else .next (raised .protocolError .iActive s)) ∧
      (exec (.depResAtn low (optByte s.did) (optByte s.nad) trail) s =
        if lastWasAtn s = true ∧ s.lastFrame ≠ [] ∧ s.txRetries < s.params.txRetryMax then .next again
        else .next (raised .protocolError .iActive s))

/-- R230: an ACK with any other PNI and a NACK with any PNI are protocol errors at an Initiator. -/
def Obligations.OtherReceiptsAreProtocolErrors : Prop :=
  ∀ (pni : Pni) (trail : List Byte) (s : State), s.st = .iDepRx →
    (pni = s.pni + 1 ∨ pni = s.pni + 2 →
        exec (.depResAck pni (optByte s.did) (optByte s.nad) trail) s = .next (raised .protocolError .iActive s)) ∧
      exec (.depResNack pni (optByte s.did) (optByte s.nad) trail) s = .next (raised .protocolError .iActive s)

/-- DEP_RES.I with MI set, past the three checks (R231; decisions D13, D23, D39): appended, PNI advanced, and an ACK
with the advanced PNI sent and recorded. -/
def Obligations.ChainedResponseIsAcknowledged : Prop :=
  ∀ (inf : List Byte) (s : State), s.st = .iDepRx → s.role = .initiator →
    inf ≠ [] ∨ s.oper.getLsbD 0 = true → s.rxLen + inf.length ≤ s.params.rxCap →
      let f := encode (.depReqAck (s.pni + 1) (optByte s.did) (optByte s.nad) [])
      exec (.depResI true s.pni (optByte s.did) (optByte s.nad) inf) s =
        .next
          { s with
            rxAcc := s.rxAcc.writeBytes s.rxLen inf
            rxLen := s.rxLen + inf.length
            pni := s.pni + 1
            txRetries := 0
            timeoutRetries := 0
            rtoxRetries := 0
            nackRetries := 0
            atnRetries := 0
            rxChaining := true
            actions := s.actions ++ [.rfTxRx f (depDeadline s)]
            lastPfb := some (f.getD 3 0)
            lastPfbExcludingAtn := some (f.getD 3 0)
            lastFrame := f
            lastDeadline := depDeadline s
            status := .chainingContinue }

/-- R232: DEP_RES.I with MI clear, past the three checks: appended, PNI advanced, counters cleared, Done in
`I_ACTIVE`. -/
def Obligations.FinalResponseCompletesTheExchange : Prop :=
  ∀ (inf : List Byte) (s : State), s.st = .iDepRx →
    inf ≠ [] ∨ s.oper.getLsbD 0 = true → s.rxLen + inf.length ≤ s.params.rxCap →
      exec (.depResI false s.pni (optByte s.did) (optByte s.nad) inf) s =
        .next
          { s with
            rxAcc := s.rxAcc.writeBytes s.rxLen inf
            rxLen := s.rxLen + inf.length
            pni := s.pni + 1
            txRetries := 0
            timeoutRetries := 0
            rtoxRetries := 0
            nackRetries := 0
            atnRetries := 0
            rxChaining := false
            st := .iActive
            status := .done }

/-- The three checks of a DEP_RES.I, in their order and before any write (R231; decisions D13, D23). -/
def Obligations.ResponseBlockChecksPrecedeWrites : Prop :=
  ∀ (mi : Bool) (pni : Pni) (inf : List Byte) (s : State), s.st = .iDepRx →
    (pni ≠ s.pni ∨ (inf = [] ∧ s.oper.getLsbD 0 = false) →
        exec (.depResI mi pni (optByte s.did) (optByte s.nad) inf) s =
          .next (raised .protocolError .iActive s)) ∧
      (pni = s.pni → inf ≠ [] ∨ s.oper.getLsbD 0 = true → s.params.rxCap < s.rxLen + inf.length →
        exec (.depResI mi pni (optByte s.did) (optByte s.nad) inf) s =
          .next (raised .bufferOverflow .iActive s))

/-- DEP_RES.RTOX (R234; decisions D8, D14): with a legal value, no ATN outstanding and fewer than ten grants so far,
granted by echo with the longer deadline, PNI as it was; else a protocol error. -/
def Obligations.RtoxIsGrantedByEcho : Prop :=
  ∀ (low : Pni) (v : Byte) (trail : List Byte) (s : State), s.st = .iDepRx → s.role = .initiator →
    let f := encode (.depReqRtox 0 (optByte s.did) (optByte s.nad) v [])
    let deadline := Deadline.within
      (min (v.toNat * 2 ^ (12 + s.wt.toNat)) (2 ^ (12 + s.params.wtIniMax)) + s.params.deltaFwt)
    exec (.depResRtox low (optByte s.did) (optByte s.nad) v trail) s =
      if lastWasAtn s = false ∧ 1 ≤ v.toNat ∧ v.toNat ≤ 59 ∧ s.rtoxRetries < 10 then
        .next
          { s with
            rtoxRetries := s.rtoxRetries + 1
            actions := s.actions ++ [.rfTxRx f deadline]
            lastPfb := some (f.getD 3 0)
            lastPfbExcludingAtn := some (f.getD 3 0)
            lastFrame := f
            lastDeadline := deadline
            lastRtoxValue := v
            status := .inProgress }
      else .next (raised .protocolError .iActive s)

/-- R235: in `I_DEP_RX` a well-delimited frame that is no DEP_RES of the session (no instruction at all, another
command, a DID or NAD that disagrees) is a ProtocolError and the cycle is aborted. -/
def Obligations.OtherFramesAbortTheCycle : Prop :=
  ∀ (bytes : List Byte) (d : Bool) (s : State), s.st = .iDepRx → lengthAgrees bytes = true →
    (∀ i, decode bytes = .ok i →
      match i with
      | .depResI _ _ did nad _ => did ≠ optByte s.did ∨ nad ≠ optByte s.nad
      | .depResAck _ did nad _ => did ≠ optByte s.did ∨ nad ≠ optByte s.nad
      | .depResNack _ did nad _ => did ≠ optByte s.did ∨ nad ≠ optByte s.nad
      | .depResAtn _ did nad _ => did ≠ optByte s.did ∨ nad ≠ optByte s.nad
      | .depResRtox _ did nad _ _ => did ≠ optByte s.did ∨ nad ≠ optByte s.nad
      | .atrReq _ _ _ _ _ _ | .atrRes _ _ _ _ _ _ _ | .pslReq _ _ _ | .pslRes _ | .depReqI _ _ _ _ _
      | .depReqAck _ _ _ _ | .depReqNack _ _ _ _ | .depReqAtn _ _ _ _ | .depReqRtox _ _ _ _ _
      | .dslReq _ _ | .dslRes _ _ | .rlsReq _ _ | .rlsRes _ _ => True) →
      step (presenting (.rf (.ok bytes)) d s) = .next (raised .protocolError .iActive { s with actions := [] })

/-- A timeout in `I_DEP_RX` whose last PDU was no NACK (R240, R241; decisions D10, D12, D13): the tests in their
order, then an ATN sent and recorded beside the last other frame. -/
def Obligations.TimeoutSendsAttention : Prop :=
  ∀ (n : Nat) (d : Bool) (s : State), s.st = .iDepRx → s.role = .initiator → lastWasNack s = false →
    let f := encode (.depReqAtn 0 (optByte s.did) (optByte s.nad) [])
    let s0 := { s with actions := [] }
    let s1 := { s0 with timeoutRetries := s.timeoutRetries + 1 }
    step (presenting (.rf (.err .timeout n)) d s) =
      if d then .next (raised .timeout .iActive s0)
      else if 3 ≤ s.timeoutRetries then .next (raised .protocolError .iActive s0)
      else if s.oper.getLsbD 1 = false then .next (raised .timeout .iActive s1)
      else if 3 ≤ s.atnRetries then .next (raised .protocolError .iActive s1)
      else
        .next
          { s1 with
            atnRetries := s.atnRetries + 1
            actions := [.rfTxRx f (depDeadline s)]
            lastPfb := some (f.getD 3 0)
            status := .inProgress }

/-- A timeout in `I_DEP_RX` whose last PDU was a NACK (R240, R242; decisions D10, D12): the tests in their order, then
the NACK again under its ceiling, past which the error is Framing. -/
def Obligations.TimeoutAfterNackResendsIt : Prop :=
  ∀ (n : Nat) (d : Bool) (s : State), s.st = .iDepRx → s.role = .initiator → lastWasNack s = true →
    let f := encode (.depReqNack s.pni (optByte s.did) (optByte s.nad) [])
    let s0 := { s with actions := [] }
    let s1 := { s0 with timeoutRetries := s.timeoutRetries + 1 }
    step (presenting (.rf (.err .timeout n)) d s) =
      if d then .next (raised .timeout .iActive s0)
      else if 3 ≤ s.timeoutRetries then .next (raised .protocolError .iActive s0)
      else if 3 ≤ s.nackRetries then .next (raised (.transmission .framing) .iActive s1)
      else
        .next
          { s1 with
            nackRetries := s.nackRetries + 1
            actions := [.rfTxRx f (depDeadline s)]
            lastPfb := some (f.getD 3 0)
            lastPfbExcludingAtn := some (f.getD 3 0)
            lastFrame := f
            lastDeadline := depDeadline s
            status := .inProgress }

/-- A transmission error in `I_DEP_RX` (R243, R244; decisions D11, D12), whatever `deact_pending` is: re-armed if the
policy is Ignore and the frame is short, else a NACK under its ceiling, past which the error is Framing. -/
def Obligations.TransmissionErrorIsAnsweredByNack : Prop :=
  ∀ (k : TxErr) (n : Nat) (d : Bool) (s : State), s.st = .iDepRx → s.role = .initiator →
    let f := encode (.depReqNack s.pni (optByte s.did) (optByte s.nad) [])
    let s0 := { s with actions := [] }
    step (presenting (.rf (.err (.transmission k) n)) d s) =
      if s.params.shortTxerrPolicy = .ignore ∧ n < s.params.minTxerrLen then
        .next { s0 with actions := [.rfRx s.lastDeadline], status := .inProgress }
      else if 3 ≤ s.nackRetries then .next (raised (.transmission .framing) .iActive s0)
      else
        .next
          { s0 with
            nackRetries := s.nackRetries + 1
            actions := [.rfTxRx f (depDeadline s)]
            lastPfb := some (f.getD 3 0)
            lastPfbExcludingAtn := some (f.getD 3 0)
            lastFrame := f
            lastDeadline := depDeadline s
            status := .inProgress }

/-! ### Data exchange, Target -/

/-- DEP_REQ.I accepted in `T_DEP_RX` (R266, R267; decisions D13, D14, D15, D16, D23): appended at the base of its
request; with MI set an ACK with the request's PNI is sent and recorded, then PNI advances; with MI clear the RTOX
delay timer starts and the host has the request, PNI as it was; past the capacity the error is BufferOverflow, and an
empty block is ignored where EMPTY_EN is clear. -/
def Obligations.RequestBlockIsAccepted : Prop :=
  ∀ (mi : Bool) (inf : List Byte) (s : State), s.st = .tDepRx → s.role = .target → s.txChaining = false →
      let base := if s.rxChaining then s.rxLen else 0
      let f := encode (.depResAck s.pni (optByte s.did) (optByte s.nad) [])
      let stored := { s with
        rxAcc := s.rxAcc.writeBytes base inf
        rxLen := base + inf.length
        txRetries := 0
        timeoutRetries := 0
        rtoxRetries := 0
        nackRetries := 0
        atnRetries := 0
        rxChaining := mi }
      exec (.depReqI mi s.pni (optByte s.did) (optByte s.nad) inf) s =
        if inf = [] ∧ s.oper.getLsbD 0 = false then .next (rearmed s)
        else if s.params.rxCap < base + inf.length then .next (raised .bufferOverflow .tDepRx s)
        else if mi then
          .next
            { stored with
              actions := s.actions ++ [.rfTxRx f .noDeadline]
              lastPfb := some (f.getD 3 0)
              lastPfbExcludingAtn := some (f.getD 3 0)
              lastFrame := f
              lastDeadline := .noDeadline
              pni := s.pni + 1
              status := .chainingContinue }
        else
          .next
            { stored with
              actions := s.actions ++ [.timerStart (2 ^ (12 + s.wt.toNat) - 2 ^ (12 + s.wt.toNat) / 8)]
              st := .tRespPending
              status := .done }

/-- DEP_REQ.ACK in `T_DEP_RX` (R268; decisions D15, D16): the next block is due when the PNI matches a chained
response; after an ATN round the previous PNI asks for the last frame again; anything else is ignored. In
`T_AWAIT_RTOX_RES` every DEP_REQ.ACK is ignored (R272, decision D15). -/
def Obligations.RequestAckContinuesOrRepeats : Prop :=
  ∀ (pni : Pni) (trail : List Byte) (s : State),
    (s.st = .tDepRx →
        exec (.depReqAck pni (optByte s.did) (optByte s.nad) trail) s =
          if s.txChaining = true ∧ pni = s.pni then
            .next
              { s with
                txRetries := 0
                timeoutRetries := 0
                rtoxRetries := 0
                nackRetries := 0
                atnRetries := 0
                st := .tDepTx
                status := .inProgress }
          else if lastWasAtn s = true ∧ pni = s.pni - 1 ∧ s.lastFrame ≠ [] then
            .next
              { s with
                actions := s.actions ++ [.rfTxRx s.lastFrame s.lastDeadline]
                lastPfb := s.lastPfbExcludingAtn
                status := .inProgress }
          else .next (rearmed s)) ∧
      (s.st = .tAwaitRtoxRes →
        exec (.depReqAck pni (optByte s.did) (optByte s.nad) trail) s = .next (rearmed s))

/-- DEP_REQ.I that is not accepted (R265, R274; decisions D15, D17): in `T_DEP_RX` the last frame again after an ATN
round with the previous PNI, in `T_AWAIT_RTOX_RES` the RTOX request again with the matching one; else ignored. That
R274 ignores it where no frame is recorded is the model's reading (log 9). -/
def Obligations.RepeatedRequestIsAnsweredAgain : Prop :=
  ∀ (mi : Bool) (pni : Pni) (inf : List Byte) (s : State),
    let again := { s with
      actions := s.actions ++ [.rfTxRx s.lastFrame s.lastDeadline]
      lastPfb := s.lastPfbExcludingAtn
      status := .inProgress }
    (s.st = .tDepRx → s.txChaining = true ∨ pni ≠ s.pni →
        exec (.depReqI mi pni (optByte s.did) (optByte s.nad) inf) s =
          if lastWasAtn s = true ∧ pni = s.pni - 1 ∧ s.lastFrame ≠ [] then .next again else .next (rearmed s)) ∧
      (s.st = .tAwaitRtoxRes →
        exec (.depReqI mi pni (optByte s.did) (optByte s.nad) inf) s =
          if pni = s.pni ∧ s.lastFrame ≠ [] then .next again else .next (rearmed s))

/-- DEP_REQ.NACK in either data state, any PNI (R269, R272; decisions D15, D17): the last frame again, if there is
one. -/
def Obligations.NackRepeatsTheLastFrame : Prop :=
  ∀ (pni : Pni) (trail : List Byte) (s : State), s.st = .tDepRx ∨ s.st = .tAwaitRtoxRes →
    exec (.depReqNack pni (optByte s.did) (optByte s.nad) trail) s =
      if s.lastFrame = [] then .next (rearmed s)
      else
        .next
          { s with
            actions := s.actions ++ [.rfTxRx s.lastFrame s.lastDeadline]
            lastPfb := s.lastPfbExcludingAtn
            status := .inProgress }

/-- DEP_REQ.ATN in either data state (R270, R272; decisions D13, D15): answered by an ATN, which leaves the record of
the last other frame; ignored where ATN is disabled. -/
def Obligations.AttentionIsAnswered : Prop :=
  ∀ (low : Pni) (trail : List Byte) (s : State), s.st = .tDepRx ∨ s.st = .tAwaitRtoxRes → s.role = .target →
    let f := encode (.depResAtn 0 (optByte s.did) (optByte s.nad) [])
    exec (.depReqAtn low (optByte s.did) (optByte s.nad) trail) s =
      if s.oper.getLsbD 1 = true then
        .next
          { s with
            actions := s.actions ++ [.rfTxRx f .noDeadline]
            lastPfb := some (f.getD 3 0)
            status := .inProgress }
      else .next (rearmed s)

/-- DEP_REQ.RTOX (R271, R273; decisions D14, D15): in `T_AWAIT_RTOX_RES` the requested value is taken as the grant,
and the host's response goes out next if it is there, else the timer runs again; any other value, and any value in
`T_DEP_RX`, is ignored. -/
def Obligations.RtoxGrantIsTaken : Prop :=
  ∀ (low : Pni) (v : Byte) (trail : List Byte) (s : State),
    (s.st = .tAwaitRtoxRes →
        exec (.depReqRtox low (optByte s.did) (optByte s.nad) v trail) s =
          if v ≠ s.lastRtoxValue then .next (rearmed s)
          else if s.txPending = true then .next { s with txPending := false, st := .tDepTx, status := .inProgress }
          else
            .next
              { s with
                actions := s.actions ++ [.timerStart (2 ^ (12 + s.wt.toNat) - 2 ^ (12 + s.wt.toNat) / 8)]
                st := .tRespPending
                status := .idle }) ∧
      (s.st = .tDepRx →
        exec (.depReqRtox low (optByte s.did) (optByte s.nad) v trail) s = .next (rearmed s))

/-- A Target that waits for a frame answers what it cannot use by re-arming (R261), and changes no register: in all
four states a transmission error, a timeout and a Malformed frame (R201, R202, R206, R263; decision D15); in
`T_WAIT_ACT_COMPLETION` a frame that is no instruction and no DEP_REQ, an unexpected one, and a PSL_REQ, DSL_REQ or
RLS_REQ with another DID (R206, R305, R306, R308; decisions D7, D15, D30); in the two data states a frame that is no
instruction, an unexpected one, and one whose DID or NAD disagrees with the session (R263, R305, R306, R308; decisions
D15, D30). -/
def Obligations.TargetIgnoresWhatItCannotUse : Prop :=
  ∀ (d : Bool) (s : State),
    (s.st = .tWaitAtr ∨ s.st = .tWaitActCompletion ∨ s.st = .tDepRx ∨ s.st = .tAwaitRtoxRes →
        (∀ (k : TxErr) (n : Nat),
          step (presenting (.rf (.err (.transmission k) n)) d s) = .next (rearmed { s with actions := [] })) ∧
        (∀ n : Nat, step (presenting (.rf (.err .timeout n)) d s) = .next (rearmed { s with actions := [] })) ∧
        ∀ bytes : List Byte, decode bytes = .error .malformed →
          step (presenting (.rf (.ok bytes)) d s) = .next (rearmed { s with actions := [] })) ∧
      (s.st = .tWaitActCompletion →
        (∀ (bytes : List Byte) (why : Reject), decode bytes = .error why → frameKind bytes ≠ some .depReq →
          step (presenting (.rf (.ok bytes)) d s) = .next (rearmed { s with actions := [] })) ∧
        ∀ i : Instr,
          (match i with
            | .pslReq did _ _ => did ≠ if s.params.pslDidAlways then some s.did else optByte s.did
            | .dslReq did _ | .rlsReq did _ => did ≠ optByte s.did
            | .depReqI _ _ _ _ _ | .depReqAck _ _ _ _ | .depReqNack _ _ _ _ | .depReqAtn _ _ _ _
            | .depReqRtox _ _ _ _ _ => False
            | .atrReq _ _ _ _ _ _ | .atrRes _ _ _ _ _ _ _ | .pslRes _ | .depResI _ _ _ _ _
            | .depResAck _ _ _ _ | .depResNack _ _ _ _ | .depResAtn _ _ _ _ | .depResRtox _ _ _ _ _
            | .dslRes _ _ | .rlsRes _ _ => True) →
          exec i s = .next (rearmed s)) ∧
      (s.st = .tDepRx ∨ s.st = .tAwaitRtoxRes →
        (∀ (bytes : List Byte) (why : Reject), decode bytes = .error why →
          step (presenting (.rf (.ok bytes)) d s) = .next (rearmed { s with actions := [] })) ∧
        ∀ i : Instr,
          (match i with
            | .depReqI _ _ did nad _ => did ≠ optByte s.did ∨ nad ≠ optByte s.nad
            | .depReqAck _ did nad _ => did ≠ optByte s.did ∨ nad ≠ optByte s.nad
            | .depReqNack _ did nad _ => did ≠ optByte s.did ∨ nad ≠ optByte s.nad
            | .depReqAtn _ did nad _ => did ≠ optByte s.did ∨ nad ≠ optByte s.nad
            | .depReqRtox _ did nad _ _ => did ≠ optByte s.did ∨ nad ≠ optByte s.nad
            | .dslReq did _ | .rlsReq did _ => did ≠ optByte s.did
            | .atrReq _ _ _ _ _ _ | .atrRes _ _ _ _ _ _ _ | .pslReq _ _ _ | .pslRes _ | .depResI _ _ _ _ _
            | .depResAck _ _ _ _ | .depResNack _ _ _ _ | .depResAtn _ _ _ _ | .depResRtox _ _ _ _ _
            | .dslRes _ _ | .rlsRes _ _ => True) →
          exec i s = .next (rearmed s))

/-- `TimerExpired` in `T_RESP_PENDING` (R283, R163; decisions D8, D14): a request for more time, at most ten, or a
hard Timeout where RTOX requests are disabled. -/
def Obligations.TargetRequestsMoreTime : Prop :=
  ∀ (d : Bool) (s : State), s.st = .tRespPending → s.role = .target →
    let v := BitVec.ofNat 8 (min (max (2 ^ (12 + s.params.wtTrgMax) / 2 ^ (12 + s.wt.toNat)) 1) 59)
    let f := encode (.depResRtox 0 (optByte s.did) (optByte s.nad) v [])
    let s0 := { s with actions := [] }
    step (presenting .timerExpired d s) =
      if s.oper.getLsbD 2 = false then .next (raised .timeout .tDepRx s0)
      else if 10 ≤ s.rtoxRetries then .next (raised .protocolError .tDepRx s0)
      else
        .next
          { s0 with
            rtoxRetries := s.rtoxRetries + 1
            actions := [.rfTxRx f .noDeadline]
            lastPfb := some (f.getD 3 0)
            lastPfbExcludingAtn := some (f.getD 3 0)
            lastFrame := f
            lastDeadline := .noDeadline
            lastRtoxValue := v
            st := .tAwaitRtoxRes
            status := .inProgress }

/-- `EXCHANGE` (R22 (b), R220, R280, R330, R373; decisions D13, D15, D21, D23): in the three states that take it the
buffer is loaded and the state moves as the role's rule says, or BadParam; in every other state WrongState, and in
`T_AWAIT_RTOX_RES` too while a response is pending: a second EXCHANGE before the first has ended (R373; that it goes
before the pseudocode of R280 is DEDUCED, log 23). -/
def Obligations.ExchangeStartsWhereTheStateTakesIt : Prop :=
  ∀ (data : List Byte) (d : Bool) (s : State),
    let loaded := { s with
      actions := []
      txBuf := s.txBuf.writeBytes 0 data
      txLen := data.length
      txOff := 0
      txChaining := false
      status := .inProgress }
    let cleared := { loaded with
      txRetries := 0, timeoutRetries := 0, rtoxRetries := 0, nackRetries := 0, atnRetries := 0 }
    let r := step (presenting (.cmd (.exchange data)) d s)
    if s.st ≠ .iActive ∧ s.st ≠ .tRespPending ∧ (s.st = .tAwaitRtoxRes → s.txPending = true) then
      r = .next { s with actions := [], status := .err .wrongState }
    else if s.params.txCap < data.length ∨ (data = [] ∧ s.oper.getLsbD 0 = false) then
      r = .next { s with actions := [], status := .err .badParam }
    else if s.st = .iActive then r = .next { cleared with rxLen := 0, rxChaining := false, st := .iDepTx }
    else if s.st = .tRespPending then r = .next { cleared with actions := [.timerStop], st := .tDepTx }
    else r = .next { loaded with txPending := true }

/-- `T_DEP_TX`, any input but a command (R285; decisions D15, D16): the next block goes out as an I-PDU with the
session's PNI, is recorded, and PNI moves on. -/
def Obligations.TargetSendsTheNextBlock : Prop :=
  ∀ (inf : List Byte) (s : State), s.st = .tDepTx → s.role = .target →
    s.txBuf.readBytes s.txOff (min (maxInf s) (s.txLen - s.txOff)) = some inf →
      let off := s.txOff + min (maxInf s) (s.txLen - s.txOff)
      let mi := decide (off < s.txLen)
      let f := encode (.depResI mi s.pni (optByte s.did) (optByte s.nad) inf)
      ∀ (input : Input) (d : Bool), input = .poll ∨ input = .timerExpired ∨ (∃ r, input = .rf r) →
        step (presenting input d s) =
          .next
            { s with
              actions := [.rfTxRx f .noDeadline]
              txOff := off
              txChaining := mi
              lastPfb := some (f.getD 3 0)
              lastPfbExcludingAtn := some (f.getD 3 0)
              lastFrame := f
              lastDeadline := .noDeadline
              pni := s.pni + 1
              st := .tDepRx
              status := .inProgress }

/-! ### Deactivation -/

/-- `DESELECT` and `RELEASE` (R300, R301; decision D21): accepted in `I_ACTIVE` only, with no RF action; else
WrongState. -/
def Obligations.DeactivationCommandsNeedAnActiveSession : Prop :=
  ∀ (d : Bool) (s : State),
    step (presenting (.cmd .deselect) d s) =
        (if s.st = .iActive then .next { s with actions := [], st := .iSendDsl, status := .inProgress }
        else .next { s with actions := [], status := .err .wrongState }) ∧
      step (presenting (.cmd .release) d s) =
        (if s.st = .iActive then .next { s with actions := [], st := .iSendRls, status := .inProgress }
        else .next { s with actions := [], status := .err .wrongState })

/-- The other "next step" states, on any input but a command (R182, R191, R205, R302; decisions D6, D7, D35, D37):
what each transmits, to what deadline, and where it goes; nothing else changes but a Target's `lr`. And the default
rows of R22 (c), (d), (e) (R284, R309; decisions D2, D15, D27): in a state that waits for a command, or is at rest, a
Poll, a discarded `Rf` and a discarded `TimerExpired` change nothing and answer Idle; in a state that waits for `Rf`,
a Poll (where no request is queued) and a discarded `TimerExpired` change nothing and answer InProgress. -/
def Obligations.InputsTakeTheirDefaultRow : Prop :=
  ∀ (input : Input) (d : Bool) (s : State), input = .poll ∨ input = .timerExpired ∨ (∃ r, input = .rf r) →
    let pp : Byte := BitVec.ofNat 8
      (16 * s.lr.toNat + (if s.gbLocal = [] then 0 else 2) + (if s.nad = 0 then 0 else 1))
    let nib := fun (n : BitVec 4) => BitVec.ofNat 8 n.toNat
    let dep := Deadline.within (2 ^ (12 + s.wt.toNat) + s.params.deltaFwt)
    let pslDidByte := if s.params.pslDidAlways then some s.did else optByte s.did
    let sent := fun (i : Instr) (dl : Deadline) (to' : St) =>
      { s with actions := [.rfTxRx (encode i) dl], st := to', status := .inProgress }
    (s.st = .iSendAtr → step (presenting input d s) =
        .next (sent (.atrReq s.nfcid3Local s.did (nib s.ownBs) (nib s.ownBr) pp s.gbLocal)
          (.within (2 ^ (12 + s.params.wtIniMax) + s.params.deltaFwt)) .iAwaitAtrRes)) ∧
      (s.st = .iSendPsl → step (presenting input d s) =
        .next (sent (.pslReq pslDidByte (BitVec.ofNat 8 (9 * s.desiredBr.toNat)) (BitVec.ofNat 8 s.lr.toNat)) dep
          .iAwaitPslRes)) ∧
      (s.st = .tSendAtrRes → step (presenting input d s) =
        .next
          { sent (.atrRes s.nfcid3Local s.did (nib s.ownBs) (nib s.ownBr) (nib s.wt) pp s.gbLocal) .noDeadline
              .tWaitActCompletion with
            lr := BitVec.ofNat 2 (min s.lr.toNat s.peerLr.toNat) }) ∧
      (s.st = .iSendDsl → step (presenting input d s) =
        .next (sent (.dslReq (optByte s.did) []) dep .iAwaitDslRes)) ∧
      (s.st = .iSendRls → step (presenting input d s) =
        .next (sent (.rlsReq (optByte s.did) []) dep .iAwaitRlsRes)) ∧
      (s.st = .idle ∨ s.st = .iActive ∨ (s.st = .tRespPending ∧ input ≠ .timerExpired) ∨ s.st = .tSleep →
        step (presenting input d s) = .next { s with actions := [], status := .idle }) ∧
      (waitsForRf s.st = true → (∀ r, input ≠ .rf r) → (s.st = .tDepRx → s.pendingReq = []) →
        step (presenting input d s) = .next { s with actions := [], status := .inProgress })

/-- DSL_REQ and RLS_REQ whose DID matches (R305, R306, R308; decisions D15, D27, D30), in the three states that take
them: answered with the response, the session closed, Sleep or Idle; whatever else is going on. -/
def Obligations.DeactivationRequestsCloseTheTarget : Prop :=
  ∀ (trail : List Byte) (s : State), s.st = .tWaitActCompletion ∨ s.st = .tDepRx ∨ s.st = .tAwaitRtoxRes →
    let closed := { s with cfgValid := false, pendingReq := [], txPending := false }
    exec (.dslReq (optByte s.did) trail) s =
        .next
          { closed with
            actions := s.actions ++ [.rfTxRx (encode (.dslRes (optByte s.did) [])) .noDeadline, .timerStop]
            st := .tSleep
            status := .deselected } ∧
      exec (.rlsReq (optByte s.did) trail) s =
        .next
          { closed with
            actions := s.actions ++ [.rfTxRx (encode (.rlsRes (optByte s.did) [])) .noDeadline, .timerStop]
            st := .idle
            status := .released }

/-- `I_AWAIT_DSL_RES` and `I_AWAIT_RLS_RES` (R303, R304, R307, R308; decisions D19, D29, D30): the awaited response
with the session's DID ends the session; any other well-delimited frame (the response with another DID, another
command, no instruction) is a ProtocolError and the session stays configured. -/
def Obligations.DeactivationResponsesEndTheSession : Prop :=
  ∀ (d : Bool) (s : State),
    (s.st = .iAwaitDslRes →
        (∀ trail, exec (.dslRes (optByte s.did) trail) s =
          .next { s with cfgValid := false, st := .idle, status := .done }) ∧
        ∀ bytes, lengthAgrees bytes = true → (∀ trail, decode bytes ≠ .ok (.dslRes (optByte s.did) trail)) →
          step (presenting (.rf (.ok bytes)) d s) = .next (raised .protocolError .iActive { s with actions := [] })) ∧
      (s.st = .iAwaitRlsRes →
        (∀ trail, exec (.rlsRes (optByte s.did) trail) s =
          .next { s with cfgValid := false, st := .idle, status := .done }) ∧
        ∀ bytes, lengthAgrees bytes = true → (∀ trail, decode bytes ≠ .ok (.rlsRes (optByte s.did) trail)) →
          step (presenting (.rf (.ok bytes)) d s) = .next (raised .protocolError .iActive { s with actions := [] }))

/-! ### Errors -/

/-- Terminal entry (R340, R341; decision D19): what `raise` leaves, with the landing of every state that raises. -/
def Obligations.RaiseLandsByTheTable : Prop :=
  (∀ (e : Err) (s : State), raise e s = .next (raised e (landing s.st) s)) ∧
    (∀ st ∈ [St.iSendAtr, .iAwaitAtrRes, .iSendPsl, .iAwaitPslRes, .tWaitAtr, .tSendAtrRes, .tWaitActCompletion],
      landing st = .idle) ∧
    (∀ st ∈ [St.iDepTx, .iDepRx, .iSendDsl, .iAwaitDslRes, .iSendRls, .iAwaitRlsRes], landing st = .iActive) ∧
    ∀ st ∈ [St.tDepRx, .tRespPending, .tAwaitRtoxRes, .tDepTx], landing st = .tDepRx

/-- RF errors outside the Initiator's data exchange. LinkLoss is raised at once in every state that waits for `Rf`
(R186, R224, R262, R307; decisions D15, D37). Awaiting ATR_RES or PSL_RES a transmission error of kind `k` sends the
request again under `atr_retries` or `psl_retries` (R184, R192; decisions D8, D9, D10), past the ceiling it is
`TransmissionError(k)`, and a Timeout is raised (R185, R192); all three end in `IDLE`. Awaiting DSL_RES or RLS_RES
both are raised, the session stays (R307; decisions D19, D37). -/
def Obligations.RfErrorsSurfaceOrRetry : Prop :=
  ∀ (n : Nat) (d : Bool) (s : State),
    let s0 := { s with actions := [] }
    (waitsForRf s.st = true →
        step (presenting (.rf (.err .linkLoss n)) d s) = .next (raised .linkLoss (landing s.st) s0)) ∧
      (s.st = .iAwaitAtrRes →
        step (presenting (.rf (.err .timeout n)) d s) = .next (raised .timeout .idle s0) ∧
        ∀ k, step (presenting (.rf (.err (.transmission k) n)) d s) =
          if s.atrRetries < 2 then
            .next { s0 with atrRetries := s.atrRetries + 1, st := .iSendAtr, status := .inProgress }
          else .next (raised (.transmission k) .idle s0)) ∧
      (s.st = .iAwaitPslRes →
        step (presenting (.rf (.err .timeout n)) d s) = .next (raised .timeout .idle s0) ∧
        ∀ k, step (presenting (.rf (.err (.transmission k) n)) d s) =
          if s.pslRetries < s.params.pslRetryMax then
            .next { s0 with pslRetries := s.pslRetries + 1, st := .iSendPsl, status := .inProgress }
          else .next (raised (.transmission k) .idle s0)) ∧
      (s.st = .iAwaitDslRes ∨ s.st = .iAwaitRlsRes →
        step (presenting (.rf (.err .timeout n)) d s) = .next (raised .timeout .iActive s0) ∧
        ∀ k, step (presenting (.rf (.err (.transmission k) n)) d s) = .next (raised (.transmission k) .iActive s0))

/-- R73: the level `deact_pending` is read only by a Timeout in `I_DEP_RX`, where it surfaces that Timeout at once
with no counter touched. -/
def Obligations.DeactPendingOnlyShortCircuitsTimeouts : Prop :=
  (∀ (input : Input) (d d' : Bool) (s : State), ¬ (s.st = .iDepRx ∧ ∃ n, input = .rf (.err .timeout n)) →
      step (presenting input d s) = step (presenting input d' s)) ∧
    ∀ (n : Nat) (s : State), s.st = .iDepRx →
      step (presenting (.rf (.err .timeout n)) true s) = .next (raised .timeout .iActive { s with actions := [] })

/-! ### The whole machine -/

/-- Every step keeps the invariant, from every state that has it: roles agree with states, `cfg_valid` with the
session, registers stay in their ranges, counters below their ceilings, buffers canonical and inside their
capacities. -/
def Obligations.StepKeepsTheInvariant : Prop :=
  ∀ s t : State, Inv s → step s = .next t → Inv t

/-- A step is total (R7): from every state that has the invariant it ends in a next state, never in a fault or a
refusal. -/
def Obligations.StepNeverStops : Prop :=
  ∀ s : State, Inv s → Runs s

/-- A received frame always has a next state, in every state that waits for one: no frame stops the machine. -/
def Obligations.EveryFrameCompletesWhereReceptionIsArmed : Prop :=
  ∀ (i : Instr) (s : State), waitsForRf s.st = true →
    ∃ t, exec i s = .next t ∧ t.params = s.params ∧ t.inputs = s.inputs

/-- R375: no step but an activation command changes the role, the mode, the NAD, the operation flags or the local
General Bytes; in a session no such step changes `did`, `wt`, `lr` or a bit rate either; a bit rate changes by a PSL
frame that ends its wait, and by nothing else; and an Initiator configuration with a NAD is refused. -/
def Obligations.ConfigurationIsFrozenInASession : Prop :=
  (∀ (input : Input) (d : Bool) (s t : State), isActivation input = false → step (presenting input d s) = .next t →
      (t.role = s.role ∧ t.commMode = s.commMode ∧ t.nad = s.nad ∧ t.oper = s.oper ∧ t.gbLocal = s.gbLocal) ∧
        (isSessionSt s.st = true →
          t.did = s.did ∧ t.wt = s.wt ∧ t.lr = s.lr ∧ t.bitrateSend = s.bitrateSend ∧ t.bitrateRecv = s.bitrateRecv) ∧
        (t.bitrateSend ≠ s.bitrateSend ∨ t.bitrateRecv ≠ s.bitrateRecv →
          ∃ bytes, input = .rf (.ok bytes) ∧
            ((s.st = .iAwaitPslRes ∧ t.st = .iActive ∧ ∃ body, decode bytes = .ok (.pslRes body)) ∨
              (s.st = .tWaitActCompletion ∧ t.st = .tDepRx ∧ ∃ did brs fsl, decode bytes = .ok (.pslReq did brs fsl))))) ∧
    ∀ (cfg : HostConfig) (atr : AtrParam) (br : Nat) (d : Bool) (s : State), cfg.nad ≠ 0 →
      step (presenting (.cmd (.initActivate cfg atr br)) d s) =
        .next { s with actions := [], status := .err .badParam }

/-- "At most one RF action per step" (R9, R70): of every step, from every state. -/
def Obligations.AtMostOneRfActionPerStep : Prop :=
  ∀ s t : State, step s = .next t → (t.actions.filter isRfAction).length ≤ 1

/-- R81, R82: under the invariant every frame a step transmits has the LEN it declares, within [3, 255], and the
CMD_TYPE of the engine's role; and every received frame whose LEN is wrong is rejected as Malformed. -/
def Obligations.SentFramesAreWellDelimited : Prop :=
  (∀ s t : State, Inv s → step s = .next t → ∀ a ∈ t.actions, ∀ bytes, sentBytes a = some bytes →
      3 ≤ bytes.length ∧ bytes.length ≤ 255 ∧ (bytes.headD 0).toNat = bytes.length ∧
        bytes.getD 1 0 = sentType s.role) ∧
    ∀ bytes : List Byte, ¬ (3 ≤ bytes.length ∧ bytes.length ≤ 255 ∧ (bytes.headD 0).toNat = bytes.length) →
      decode bytes = .error .malformed
end

