-- ==== Sys2Proof/Laws/Decode.lean ====
section
/-! SUPPORT. The small facts of the codec: the fields of a PFB that was put together, the bytes of a frame that was put
together, and what each part of the decoder answers on them. -/

namespace Sys2Proof

@[simp] theorem kindOf_kindBytes (k : FrameKind) : kindOf (kindBytes k).1 (kindBytes k).2 = some k := by
  cases k <;> rfl

@[simp] theorem pfbClass_pfbByte (k : DepKind) (n d : Bool) (p : Pni) : pfbClass (pfbByte k n d p) = some k := by
  revert p
  cases k with
  | info mi => cases mi <;> cases n <;> cases d <;> decide
  | ack => cases n <;> cases d <;> decide
  | nack => cases n <;> cases d <;> decide
  | atn => cases n <;> cases d <;> decide
  | rtox => cases n <;> cases d <;> decide

@[simp] theorem pfbHasDid_pfbByte (k : DepKind) (n d : Bool) (p : Pni) : pfbHasDid (pfbByte k n d p) = d := by
  revert p
  cases k with
  | info mi => cases mi <;> cases n <;> cases d <;> decide
  | ack => cases n <;> cases d <;> decide
  | nack => cases n <;> cases d <;> decide
  | atn => cases n <;> cases d <;> decide
  | rtox => cases n <;> cases d <;> decide

@[simp] theorem pfbHasNad_pfbByte (k : DepKind) (n d : Bool) (p : Pni) : pfbHasNad (pfbByte k n d p) = n := by
  revert p
  cases k with
  | info mi => cases mi <;> cases n <;> cases d <;> decide
  | ack => cases n <;> cases d <;> decide
  | nack => cases n <;> cases d <;> decide
  | atn => cases n <;> cases d <;> decide
  | rtox => cases n <;> cases d <;> decide

@[simp] theorem pfbPni_pfbByte (k : DepKind) (n d : Bool) (p : Pni) : pfbPni (pfbByte k n d p) = p := by
  revert p
  cases k with
  | info mi => cases mi <;> cases n <;> cases d <;> decide
  | ack => cases n <;> cases d <;> decide
  | nack => cases n <;> cases d <;> decide
  | atn => cases n <;> cases d <;> decide
  | rtox => cases n <;> cases d <;> decide

/-- A PFB of a known class is put together from its own fields. -/
theorem pfbByte_of_class {pfb : Byte} {k : DepKind} (h : pfbClass pfb = some k) :
    pfbByte k (pfbHasNad pfb) (pfbHasDid pfb) (pfbPni pfb) = pfb := by
  revert pfb
  cases k with
  | info mi => cases mi <;> decide
  | ack => decide
  | nack => decide
  | atn => decide
  | rtox => decide

@[simp] theorem takeOptional_toList (o : Option Byte) (rest : List Byte) :
    takeOptional o.isSome (o.toList ++ rest) = some (o, rest) := by
  cases o <;> rfl

/-- What an optional byte is taken from, it and the rest make up again. -/
theorem takeOptional_eq_some {present : Bool} {bytes : List Byte} {o : Option Byte} {rest : List Byte}
    (h : takeOptional present bytes = some (o, rest)) : o.isSome = present ∧ o.toList ++ rest = bytes := by
  cases present with
  | false => simp [takeOptional] at h; simp [← h.1, ← h.2]
  | true =>
    cases bytes with
    | nil => simp [takeOptional] at h
    | cons b bs => simp [takeOptional] at h; simp [← h.1, ← h.2]

@[simp] theorem splitDep_depBody (k : DepKind) (p : Pni) (did nad : Option Byte) (payload : List Byte) :
    splitDep (depBody k p did nad payload) =
      .ok { pfb := pfbByte k nad.isSome did.isSome p, kind := k, did, nad, payload } := by
  simp [splitDep, depBody]

/-- The parts of a DEP frame make up its body again, and the kind is the class of its PFB. -/
theorem splitDep_eq_ok {body : List Byte} {p : DepParts} (h : splitDep body = .ok p) :
    pfbClass p.pfb = some p.kind ∧ depBody p.kind (pfbPni p.pfb) p.did p.nad p.payload = body := by
  cases body with
  | nil => simp [splitDep] at h
  | cons pfb rest =>
    simp only [splitDep] at h
    split at h
    · cases h
    · rename_i kind hk
      split at h
      · cases h
      · rename_i did rest1 hd
        split at h
        · cases h
        · rename_i nad payload hn
          cases h
          obtain ⟨hd1, hd2⟩ := takeOptional_eq_some hd
          obtain ⟨hn1, hn2⟩ := takeOptional_eq_some hn
          refine ⟨hk, ?_⟩
          simp only [depBody, hd1, hn1, pfbByte_of_class hk, hn2, hd2]

@[simp] theorem splitDid_toList {did : Option Byte} {trail : List Byte} (h : (did.isSome || trail.isEmpty) = true) :
    splitDid (did.toList ++ trail) = (did, trail) := by
  cases did with
  | none => cases trail <;> simp_all [splitDid]
  | some d => rfl

theorem splitDid_append (body : List Byte) : (splitDid body).1.toList ++ (splitDid body).2 = body := by
  cases body <;> rfl

@[simp] theorem frameOf_length (k : FrameKind) (body : List Byte) : (frameOf k body).length = 3 + body.length := by
  simp [frameOf]; omega

@[simp] theorem frameOf_drop (k : FrameKind) (body : List Byte) : (frameOf k body).drop 3 = body := rfl

@[simp] theorem frameKind_frameOf (k : FrameKind) (body : List Byte) : frameKind (frameOf k body) = some k := by
  simp [frameKind, frameOf]

/-- A frame short enough for its LEN byte has the LEN it declares (30_encoding.md R81). -/
theorem lengthAgrees_frameOf (k : FrameKind) {body : List Byte} (h : body.length ≤ 252) :
    lengthAgrees (frameOf k body) = true := by
  simp [lengthAgrees, Config.lenMin, Config.lenMax, frameOf]
  omega

/-- The one law of the decoder: a frame short enough for its LEN byte decodes as its body does. -/
theorem decode_frameOf (k : FrameKind) {body : List Byte} (h : body.length ≤ 252) :
    decode (frameOf k body) = decodeBody k body := by
  simp [decode, lengthAgrees_frameOf k h]

/-- A frame of a known kind is put together from its kind and its body. -/
theorem frameOf_of_kind {bytes : List Byte} {k : FrameKind} (hl : lengthAgrees bytes = true)
    (hk : frameKind bytes = some k) : frameOf k (bytes.drop 3) = bytes := by
  match bytes, hl, hk with
  | [], hl, _ => simp [lengthAgrees, Config.lenMin] at hl
  | [_], hl, _ => simp [lengthAgrees, Config.lenMin] at hl
  | [_, _], hl, _ => simp [lengthAgrees, Config.lenMin] at hl
  | len :: t :: c :: body, hl, hk =>
    have hb : kindBytes k = (t, c) := by
      simp only [frameKind, kindOf, List.getD_cons_succ, List.getD_cons_zero] at hk
      simpa using List.find?_some hk
    simp [lengthAgrees, Config.lenMin, Config.lenMax] at hl
    simp only [frameOf, hb, List.drop_succ_cons, List.drop_zero, List.cons.injEq, and_true]
    apply BitVec.eq_of_toNat_eq
    simp
    omega

theorem optCount_eq_length (o : Option Byte) : optCount o = o.toList.length := by cases o <;> rfl

/-- Every instruction is a frame of some kind whose body has the length WellFormed counts. -/
theorem encode_eq_frameOf (i : Instr) :
    ∃ k body, encode i = frameOf k body ∧ body.length = i.bodyLength := by
  cases i <;>
    exact ⟨_, _, rfl, by
      simp only [depBody, Instr.bodyLength, optCount_eq_length, List.length_append, List.length_cons, List.length_nil]
      try omega⟩

/-- A frame has as many bytes as WellFormed counts. -/
theorem encode_length (i : Instr) : (encode i).length = 3 + i.bodyLength := by
  obtain ⟨k, body, h, hl⟩ := encode_eq_frameOf i
  rw [h, frameOf_length, hl]

theorem bodyLength_le_of_wf {i : Instr} (h : i.wf = true) : i.bodyLength ≤ 252 := by
  rw [Instr.wf, Bool.and_eq_true] at h
  have h1 : decide (Config.lenMin + i.bodyLength ≤ Config.lenMax) = true := h.1
  have h2 := of_decide_eq_true h1
  simp only [Config.lenMin, Config.lenMax] at h2
  omega

end Sys2Proof
end

