-- ==== Sys2Proof/Laws/Memory.lean ====
section
/-! SUPPORT. The laws of a buffer space: a read after a write, and that every operation keeps the canonical form. -/

namespace Sys2Proof.Machine

@[simp] theorem Memory.read_nil (a : Nat) : Memory.read [] a = none := rfl

@[simp] theorem Memory.read_write_self (m : Memory) (a : Nat) (v : Byte) : (m.write a v).read a = some v := by
  induction m with
  | nil => simp [Memory.write, Memory.read]
  | cons c rest ih =>
    obtain ⟨k, b⟩ := c
    simp only [Memory.write]
    split
    · simp [Memory.read]
    · split
      · simp [Memory.read]
      · rename_i h1 h2
        simp [Memory.read, h2, ih]

theorem Memory.read_write_of_ne {a a' : Nat} (h : a' ≠ a) (m : Memory) (v : Byte) :
    (m.write a v).read a' = m.read a' := by
  induction m with
  | nil => simp [Memory.write, Memory.read, h]
  | cons c rest ih =>
    obtain ⟨k, b⟩ := c
    simp only [Memory.write]
    split
    · simp [Memory.read, h]
    · split
      · rename_i h1 h2
        subst h2
        simp [Memory.read, h]
      · simp [Memory.read, ih]

/-- The first offset a canonical memory lists is below every other. -/
def Memory.above (lo : Nat) : Memory → Bool
  | [] => true
  | (k, _) :: _ => lo < k

theorem Memory.wf_cons (k : Nat) (b : Byte) (rest : Memory) :
    Memory.wf ((k, b) :: rest) = (Memory.above k rest && Memory.wf rest) := by
  cases rest with
  | nil => rfl
  | cons c rest => obtain ⟨k', b'⟩ := c; rfl

theorem Memory.above_write {lo a : Nat} (h : lo < a) (m : Memory) (v : Byte) (hm : Memory.above lo m = true) :
    Memory.above lo (m.write a v) = true := by
  cases m with
  | nil => simpa [Memory.write, Memory.above] using h
  | cons c rest =>
    obtain ⟨k, b⟩ := c
    simp only [Memory.write]
    split
    · simpa [Memory.above] using h
    · split
      · simpa [Memory.above] using h
      · simpa [Memory.above] using hm

/-- Writing one byte keeps the canonical form. -/
theorem Memory.wf_write (m : Memory) (a : Nat) (v : Byte) (hm : m.wf = true) : (m.write a v).wf = true := by
  induction m with
  | nil => rfl
  | cons c rest ih =>
    obtain ⟨k, b⟩ := c
    rw [Memory.wf_cons, Bool.and_eq_true] at hm
    simp only [Memory.write]
    split
    · rename_i h
      rw [Memory.wf_cons, Memory.wf_cons, hm.1, hm.2]
      simp [Memory.above, h]
    · split
      · rename_i h1 h2
        subst h2
        rw [Memory.wf_cons]
        simp [hm]
      · rename_i h1 h2
        rw [Memory.wf_cons, Memory.above_write (by omega) rest v hm.1, ih hm.2]
        rfl

/-- Writing a byte string keeps the canonical form. -/
theorem Memory.wf_writeBytes (bs : List Byte) (m : Memory) (off : Nat) (hm : m.wf = true) :
    (m.writeBytes off bs).wf = true := by
  induction bs generalizing m off with
  | nil => exact hm
  | cons b bs ih => exact ih _ _ (Memory.wf_write m off b hm)

/-- Outside the bytes written, memory reads as before. -/
theorem Memory.read_writeBytes_of_outside {a off : Nat} (bs : List Byte) (m : Memory)
    (h : a < off ∨ off + bs.length ≤ a) : (m.writeBytes off bs).read a = m.read a := by
  induction bs generalizing m off with
  | nil => rfl
  | cons b bs ih =>
    simp only [List.length_cons] at h
    rw [Memory.writeBytes, ih _ (by omega), Memory.read_write_of_ne (by omega)]

/-- Inside the bytes written, memory reads the byte written there. -/
theorem Memory.read_writeBytes_inside (bs : List Byte) (m : Memory) (off j : Nat) (h : j < bs.length) :
    (m.writeBytes off bs).read (off + j) = bs[j]? := by
  induction bs generalizing m off j with
  | nil => simp at h
  | cons b bs ih =>
    cases j with
    | zero =>
      rw [Memory.writeBytes, Memory.read_writeBytes_of_outside _ _ (by omega)]
      simp
    | succ j =>
      simp only [List.length_cons] at h
      rw [Memory.writeBytes, show off + (j + 1) = (off + 1) + j by omega, ih _ _ _ (by omega)]
      simp

/-- A read of several bytes succeeds exactly when each byte is there, and gives them in order. -/
theorem Memory.readBytes_eq_some {m : Memory} {n off : Nat} {bs : List Byte} :
    m.readBytes off n = some bs ↔ bs.length = n ∧ ∀ j, j < n → m.read (off + j) = bs[j]? := by
  induction n generalizing off bs with
  | zero => cases bs <;> simp [Memory.readBytes]
  | succ n ih =>
    constructor
    · intro h
      simp only [Memory.readBytes] at h
      split at h
      · rename_i b rest hb hr
        cases h
        obtain ⟨hl, hj⟩ := ih.1 hr
        refine ⟨by simp [hl], fun j hlt => ?_⟩
        cases j with
        | zero => simpa using hb
        | succ j => simpa [Nat.add_assoc, Nat.add_comm 1 j] using hj j (by omega)
      · cases h
    · rintro ⟨hl, hj⟩
      cases bs with
      | nil => simp at hl
      | cons b rest =>
        have hb : m.read off = some b := by simpa using hj 0 (by omega)
        have hr : m.readBytes (off + 1) n = some rest :=
          ih.2 ⟨by simpa using hl, fun j hlt => by
            simpa [Nat.add_assoc, Nat.add_comm 1 j] using hj (j + 1) (by omega)⟩
        simp [Memory.readBytes, hb, hr]

/-- What was written as a string reads back as that string. -/
theorem Memory.readBytes_writeBytes (m : Memory) (off : Nat) (bs : List Byte) :
    (m.writeBytes off bs).readBytes off bs.length = some bs :=
  Memory.readBytes_eq_some.2 ⟨rfl, fun j h => Memory.read_writeBytes_inside bs m off j h⟩

/-- A written buffer keeps its form when a string is written from inside its valid length, within its capacity. -/
theorem BufferOk.writeBytes {m : Memory} {len cap off : Nat} (h : BufferOk m len cap) (bs : List Byte)
    (hoff : off ≤ len) (hcap : off + bs.length ≤ cap) : BufferOk (m.writeBytes off bs) (off + bs.length) cap := by
  refine ⟨Memory.wf_writeBytes bs m off h.canonical, hcap, fun a b hab => ?_, fun a ha => ?_⟩
  · by_cases hin : off ≤ a ∧ a < off + bs.length
    · omega
    · rw [Memory.read_writeBytes_of_outside bs m (by omega)] at hab
      exact h.inside a b hab
  · by_cases hin : off ≤ a
    · obtain ⟨j, rfl⟩ := Nat.exists_eq_add_of_le hin
      rw [Memory.read_writeBytes_inside bs m off j (by omega)]
      simp [show j < bs.length by omega]
    · rw [Memory.read_writeBytes_of_outside bs m (by omega)]
      exact h.written a (by omega)

end Sys2Proof.Machine
end

