-- ==== Sys2Proof/Laws/State.lean ====
section
/-! SUPPORT. One lemma per field per state update, so that no later proof unfolds a record update. -/

namespace Sys2Proof.Machine

/-! `emit` writes the action list only (00_scope.md R15). -/

@[simp] theorem emit_params (a : Action) (s : State) : (emit a s).params = s.params := rfl
@[simp] theorem emit_inputs (a : Action) (s : State) : (emit a s).inputs = s.inputs := rfl
@[simp] theorem emit_actions (a : Action) (s : State) : (emit a s).actions = s.actions ++ [a] := rfl
@[simp] theorem emit_status (a : Action) (s : State) : (emit a s).status = s.status := rfl
@[simp] theorem emit_st (a : Action) (s : State) : (emit a s).st = s.st := rfl
@[simp] theorem emit_cfgValid (a : Action) (s : State) : (emit a s).cfgValid = s.cfgValid := rfl
@[simp] theorem emit_role (a : Action) (s : State) : (emit a s).role = s.role := rfl
@[simp] theorem emit_commMode (a : Action) (s : State) : (emit a s).commMode = s.commMode := rfl
@[simp] theorem emit_did (a : Action) (s : State) : (emit a s).did = s.did := rfl
@[simp] theorem emit_nad (a : Action) (s : State) : (emit a s).nad = s.nad := rfl
@[simp] theorem emit_bitrateSend (a : Action) (s : State) : (emit a s).bitrateSend = s.bitrateSend := rfl
@[simp] theorem emit_bitrateRecv (a : Action) (s : State) : (emit a s).bitrateRecv = s.bitrateRecv := rfl
@[simp] theorem emit_lr (a : Action) (s : State) : (emit a s).lr = s.lr := rfl
@[simp] theorem emit_wt (a : Action) (s : State) : (emit a s).wt = s.wt := rfl
@[simp] theorem emit_oper (a : Action) (s : State) : (emit a s).oper = s.oper := rfl
@[simp] theorem emit_nfcid3Local (a : Action) (s : State) : (emit a s).nfcid3Local = s.nfcid3Local := rfl
@[simp] theorem emit_nfcid3Peer (a : Action) (s : State) : (emit a s).nfcid3Peer = s.nfcid3Peer := rfl
@[simp] theorem emit_gbLocal (a : Action) (s : State) : (emit a s).gbLocal = s.gbLocal := rfl
@[simp] theorem emit_gbPeer (a : Action) (s : State) : (emit a s).gbPeer = s.gbPeer := rfl
@[simp] theorem emit_ownBs (a : Action) (s : State) : (emit a s).ownBs = s.ownBs := rfl
@[simp] theorem emit_ownBr (a : Action) (s : State) : (emit a s).ownBr = s.ownBr := rfl
@[simp] theorem emit_peerBs (a : Action) (s : State) : (emit a s).peerBs = s.peerBs := rfl
@[simp] theorem emit_peerBr (a : Action) (s : State) : (emit a s).peerBr = s.peerBr := rfl
@[simp] theorem emit_peerLr (a : Action) (s : State) : (emit a s).peerLr = s.peerLr := rfl
@[simp] theorem emit_peerNadUsed (a : Action) (s : State) : (emit a s).peerNadUsed = s.peerNadUsed := rfl
@[simp] theorem emit_desiredBr (a : Action) (s : State) : (emit a s).desiredBr = s.desiredBr := rfl
@[simp] theorem emit_pni (a : Action) (s : State) : (emit a s).pni = s.pni := rfl
@[simp] theorem emit_txChaining (a : Action) (s : State) : (emit a s).txChaining = s.txChaining := rfl
@[simp] theorem emit_rxChaining (a : Action) (s : State) : (emit a s).rxChaining = s.rxChaining := rfl
@[simp] theorem emit_lastPfb (a : Action) (s : State) : (emit a s).lastPfb = s.lastPfb := rfl
@[simp] theorem emit_lastPfbExcludingAtn (a : Action) (s : State) : (emit a s).lastPfbExcludingAtn = s.lastPfbExcludingAtn := rfl
@[simp] theorem emit_lastRtoxValue (a : Action) (s : State) : (emit a s).lastRtoxValue = s.lastRtoxValue := rfl
@[simp] theorem emit_txRetries (a : Action) (s : State) : (emit a s).txRetries = s.txRetries := rfl
@[simp] theorem emit_timeoutRetries (a : Action) (s : State) : (emit a s).timeoutRetries = s.timeoutRetries := rfl
@[simp] theorem emit_rtoxRetries (a : Action) (s : State) : (emit a s).rtoxRetries = s.rtoxRetries := rfl
@[simp] theorem emit_nackRetries (a : Action) (s : State) : (emit a s).nackRetries = s.nackRetries := rfl
@[simp] theorem emit_atnRetries (a : Action) (s : State) : (emit a s).atnRetries = s.atnRetries := rfl
@[simp] theorem emit_atrRetries (a : Action) (s : State) : (emit a s).atrRetries = s.atrRetries := rfl
@[simp] theorem emit_pslRetries (a : Action) (s : State) : (emit a s).pslRetries = s.pslRetries := rfl
@[simp] theorem emit_txBuf (a : Action) (s : State) : (emit a s).txBuf = s.txBuf := rfl
@[simp] theorem emit_txLen (a : Action) (s : State) : (emit a s).txLen = s.txLen := rfl
@[simp] theorem emit_txOff (a : Action) (s : State) : (emit a s).txOff = s.txOff := rfl
@[simp] theorem emit_rxAcc (a : Action) (s : State) : (emit a s).rxAcc = s.rxAcc := rfl
@[simp] theorem emit_rxLen (a : Action) (s : State) : (emit a s).rxLen = s.rxLen := rfl
@[simp] theorem emit_lastFrame (a : Action) (s : State) : (emit a s).lastFrame = s.lastFrame := rfl
@[simp] theorem emit_lastDeadline (a : Action) (s : State) : (emit a s).lastDeadline = s.lastDeadline := rfl
@[simp] theorem emit_pendingReq (a : Action) (s : State) : (emit a s).pendingReq = s.pendingReq := rfl
@[simp] theorem emit_txPending (a : Action) (s : State) : (emit a s).txPending = s.txPending := rfl

/-! `clear_counters` writes the five exchange counters only (R153). -/

@[simp] theorem clearCounters_params (s : State) : (clearCounters s).params = s.params := rfl
@[simp] theorem clearCounters_inputs (s : State) : (clearCounters s).inputs = s.inputs := rfl
@[simp] theorem clearCounters_actions (s : State) : (clearCounters s).actions = s.actions := rfl
@[simp] theorem clearCounters_status (s : State) : (clearCounters s).status = s.status := rfl
@[simp] theorem clearCounters_st (s : State) : (clearCounters s).st = s.st := rfl
@[simp] theorem clearCounters_cfgValid (s : State) : (clearCounters s).cfgValid = s.cfgValid := rfl
@[simp] theorem clearCounters_role (s : State) : (clearCounters s).role = s.role := rfl
@[simp] theorem clearCounters_commMode (s : State) : (clearCounters s).commMode = s.commMode := rfl
@[simp] theorem clearCounters_did (s : State) : (clearCounters s).did = s.did := rfl
@[simp] theorem clearCounters_nad (s : State) : (clearCounters s).nad = s.nad := rfl
@[simp] theorem clearCounters_bitrateSend (s : State) : (clearCounters s).bitrateSend = s.bitrateSend := rfl
@[simp] theorem clearCounters_bitrateRecv (s : State) : (clearCounters s).bitrateRecv = s.bitrateRecv := rfl
@[simp] theorem clearCounters_lr (s : State) : (clearCounters s).lr = s.lr := rfl
@[simp] theorem clearCounters_wt (s : State) : (clearCounters s).wt = s.wt := rfl
@[simp] theorem clearCounters_oper (s : State) : (clearCounters s).oper = s.oper := rfl
@[simp] theorem clearCounters_nfcid3Local (s : State) : (clearCounters s).nfcid3Local = s.nfcid3Local := rfl
@[simp] theorem clearCounters_nfcid3Peer (s : State) : (clearCounters s).nfcid3Peer = s.nfcid3Peer := rfl
@[simp] theorem clearCounters_gbLocal (s : State) : (clearCounters s).gbLocal = s.gbLocal := rfl
@[simp] theorem clearCounters_gbPeer (s : State) : (clearCounters s).gbPeer = s.gbPeer := rfl
@[simp] theorem clearCounters_ownBs (s : State) : (clearCounters s).ownBs = s.ownBs := rfl
@[simp] theorem clearCounters_ownBr (s : State) : (clearCounters s).ownBr = s.ownBr := rfl
@[simp] theorem clearCounters_peerBs (s : State) : (clearCounters s).peerBs = s.peerBs := rfl
@[simp] theorem clearCounters_peerBr (s : State) : (clearCounters s).peerBr = s.peerBr := rfl
@[simp] theorem clearCounters_peerLr (s : State) : (clearCounters s).peerLr = s.peerLr := rfl
@[simp] theorem clearCounters_peerNadUsed (s : State) : (clearCounters s).peerNadUsed = s.peerNadUsed := rfl
@[simp] theorem clearCounters_desiredBr (s : State) : (clearCounters s).desiredBr = s.desiredBr := rfl
@[simp] theorem clearCounters_pni (s : State) : (clearCounters s).pni = s.pni := rfl
@[simp] theorem clearCounters_txChaining (s : State) : (clearCounters s).txChaining = s.txChaining := rfl
@[simp] theorem clearCounters_rxChaining (s : State) : (clearCounters s).rxChaining = s.rxChaining := rfl
@[simp] theorem clearCounters_lastPfb (s : State) : (clearCounters s).lastPfb = s.lastPfb := rfl
@[simp] theorem clearCounters_lastPfbExcludingAtn (s : State) : (clearCounters s).lastPfbExcludingAtn = s.lastPfbExcludingAtn := rfl
@[simp] theorem clearCounters_lastRtoxValue (s : State) : (clearCounters s).lastRtoxValue = s.lastRtoxValue := rfl
@[simp] theorem clearCounters_txRetries (s : State) : (clearCounters s).txRetries = 0 := rfl
@[simp] theorem clearCounters_timeoutRetries (s : State) : (clearCounters s).timeoutRetries = 0 := rfl
@[simp] theorem clearCounters_rtoxRetries (s : State) : (clearCounters s).rtoxRetries = 0 := rfl
@[simp] theorem clearCounters_nackRetries (s : State) : (clearCounters s).nackRetries = 0 := rfl
@[simp] theorem clearCounters_atnRetries (s : State) : (clearCounters s).atnRetries = 0 := rfl
@[simp] theorem clearCounters_atrRetries (s : State) : (clearCounters s).atrRetries = s.atrRetries := rfl
@[simp] theorem clearCounters_pslRetries (s : State) : (clearCounters s).pslRetries = s.pslRetries := rfl
@[simp] theorem clearCounters_txBuf (s : State) : (clearCounters s).txBuf = s.txBuf := rfl
@[simp] theorem clearCounters_txLen (s : State) : (clearCounters s).txLen = s.txLen := rfl
@[simp] theorem clearCounters_txOff (s : State) : (clearCounters s).txOff = s.txOff := rfl
@[simp] theorem clearCounters_rxAcc (s : State) : (clearCounters s).rxAcc = s.rxAcc := rfl
@[simp] theorem clearCounters_rxLen (s : State) : (clearCounters s).rxLen = s.rxLen := rfl
@[simp] theorem clearCounters_lastFrame (s : State) : (clearCounters s).lastFrame = s.lastFrame := rfl
@[simp] theorem clearCounters_lastDeadline (s : State) : (clearCounters s).lastDeadline = s.lastDeadline := rfl
@[simp] theorem clearCounters_pendingReq (s : State) : (clearCounters s).pendingReq = s.pendingReq := rfl
@[simp] theorem clearCounters_txPending (s : State) : (clearCounters s).txPending = s.txPending := rfl

/-! `advance_pni` writes `pni` only (R151). -/

@[simp] theorem advancePni_params (s : State) : (advancePni s).params = s.params := rfl
@[simp] theorem advancePni_inputs (s : State) : (advancePni s).inputs = s.inputs := rfl
@[simp] theorem advancePni_actions (s : State) : (advancePni s).actions = s.actions := rfl
@[simp] theorem advancePni_status (s : State) : (advancePni s).status = s.status := rfl
@[simp] theorem advancePni_st (s : State) : (advancePni s).st = s.st := rfl
@[simp] theorem advancePni_cfgValid (s : State) : (advancePni s).cfgValid = s.cfgValid := rfl
@[simp] theorem advancePni_role (s : State) : (advancePni s).role = s.role := rfl
@[simp] theorem advancePni_commMode (s : State) : (advancePni s).commMode = s.commMode := rfl
@[simp] theorem advancePni_did (s : State) : (advancePni s).did = s.did := rfl
@[simp] theorem advancePni_nad (s : State) : (advancePni s).nad = s.nad := rfl
@[simp] theorem advancePni_bitrateSend (s : State) : (advancePni s).bitrateSend = s.bitrateSend := rfl
@[simp] theorem advancePni_bitrateRecv (s : State) : (advancePni s).bitrateRecv = s.bitrateRecv := rfl
@[simp] theorem advancePni_lr (s : State) : (advancePni s).lr = s.lr := rfl
@[simp] theorem advancePni_wt (s : State) : (advancePni s).wt = s.wt := rfl
@[simp] theorem advancePni_oper (s : State) : (advancePni s).oper = s.oper := rfl
@[simp] theorem advancePni_nfcid3Local (s : State) : (advancePni s).nfcid3Local = s.nfcid3Local := rfl
@[simp] theorem advancePni_nfcid3Peer (s : State) : (advancePni s).nfcid3Peer = s.nfcid3Peer := rfl
@[simp] theorem advancePni_gbLocal (s : State) : (advancePni s).gbLocal = s.gbLocal := rfl
@[simp] theorem advancePni_gbPeer (s : State) : (advancePni s).gbPeer = s.gbPeer := rfl
@[simp] theorem advancePni_ownBs (s : State) : (advancePni s).ownBs = s.ownBs := rfl
@[simp] theorem advancePni_ownBr (s : State) : (advancePni s).ownBr = s.ownBr := rfl
@[simp] theorem advancePni_peerBs (s : State) : (advancePni s).peerBs = s.peerBs := rfl
@[simp] theorem advancePni_peerBr (s : State) : (advancePni s).peerBr = s.peerBr := rfl
@[simp] theorem advancePni_peerLr (s : State) : (advancePni s).peerLr = s.peerLr := rfl
@[simp] theorem advancePni_peerNadUsed (s : State) : (advancePni s).peerNadUsed = s.peerNadUsed := rfl
@[simp] theorem advancePni_desiredBr (s : State) : (advancePni s).desiredBr = s.desiredBr := rfl
@[simp] theorem advancePni_pni (s : State) : (advancePni s).pni = pniInc s.pni := rfl
@[simp] theorem advancePni_txChaining (s : State) : (advancePni s).txChaining = s.txChaining := rfl
@[simp] theorem advancePni_rxChaining (s : State) : (advancePni s).rxChaining = s.rxChaining := rfl
@[simp] theorem advancePni_lastPfb (s : State) : (advancePni s).lastPfb = s.lastPfb := rfl
@[simp] theorem advancePni_lastPfbExcludingAtn (s : State) : (advancePni s).lastPfbExcludingAtn = s.lastPfbExcludingAtn := rfl
@[simp] theorem advancePni_lastRtoxValue (s : State) : (advancePni s).lastRtoxValue = s.lastRtoxValue := rfl
@[simp] theorem advancePni_txRetries (s : State) : (advancePni s).txRetries = s.txRetries := rfl
@[simp] theorem advancePni_timeoutRetries (s : State) : (advancePni s).timeoutRetries = s.timeoutRetries := rfl
@[simp] theorem advancePni_rtoxRetries (s : State) : (advancePni s).rtoxRetries = s.rtoxRetries := rfl
@[simp] theorem advancePni_nackRetries (s : State) : (advancePni s).nackRetries = s.nackRetries := rfl
@[simp] theorem advancePni_atnRetries (s : State) : (advancePni s).atnRetries = s.atnRetries := rfl
@[simp] theorem advancePni_atrRetries (s : State) : (advancePni s).atrRetries = s.atrRetries := rfl
@[simp] theorem advancePni_pslRetries (s : State) : (advancePni s).pslRetries = s.pslRetries := rfl
@[simp] theorem advancePni_txBuf (s : State) : (advancePni s).txBuf = s.txBuf := rfl
@[simp] theorem advancePni_txLen (s : State) : (advancePni s).txLen = s.txLen := rfl
@[simp] theorem advancePni_txOff (s : State) : (advancePni s).txOff = s.txOff := rfl
@[simp] theorem advancePni_rxAcc (s : State) : (advancePni s).rxAcc = s.rxAcc := rfl
@[simp] theorem advancePni_rxLen (s : State) : (advancePni s).rxLen = s.rxLen := rfl
@[simp] theorem advancePni_lastFrame (s : State) : (advancePni s).lastFrame = s.lastFrame := rfl
@[simp] theorem advancePni_lastDeadline (s : State) : (advancePni s).lastDeadline = s.lastDeadline := rfl
@[simp] theorem advancePni_pendingReq (s : State) : (advancePni s).pendingReq = s.pendingReq := rfl
@[simp] theorem advancePni_txPending (s : State) : (advancePni s).txPending = s.txPending := rfl

/-! `append` writes the accumulator and its length only (R157). -/

@[simp] theorem append_params (inf : List Byte) (s : State) : (append inf s).params = s.params := rfl
@[simp] theorem append_inputs (inf : List Byte) (s : State) : (append inf s).inputs = s.inputs := rfl
@[simp] theorem append_actions (inf : List Byte) (s : State) : (append inf s).actions = s.actions := rfl
@[simp] theorem append_status (inf : List Byte) (s : State) : (append inf s).status = s.status := rfl
@[simp] theorem append_st (inf : List Byte) (s : State) : (append inf s).st = s.st := rfl
@[simp] theorem append_cfgValid (inf : List Byte) (s : State) : (append inf s).cfgValid = s.cfgValid := rfl
@[simp] theorem append_role (inf : List Byte) (s : State) : (append inf s).role = s.role := rfl
@[simp] theorem append_commMode (inf : List Byte) (s : State) : (append inf s).commMode = s.commMode := rfl
@[simp] theorem append_did (inf : List Byte) (s : State) : (append inf s).did = s.did := rfl
@[simp] theorem append_nad (inf : List Byte) (s : State) : (append inf s).nad = s.nad := rfl
@[simp] theorem append_bitrateSend (inf : List Byte) (s : State) : (append inf s).bitrateSend = s.bitrateSend := rfl
@[simp] theorem append_bitrateRecv (inf : List Byte) (s : State) : (append inf s).bitrateRecv = s.bitrateRecv := rfl
@[simp] theorem append_lr (inf : List Byte) (s : State) : (append inf s).lr = s.lr := rfl
@[simp] theorem append_wt (inf : List Byte) (s : State) : (append inf s).wt = s.wt := rfl
@[simp] theorem append_oper (inf : List Byte) (s : State) : (append inf s).oper = s.oper := rfl
@[simp] theorem append_nfcid3Local (inf : List Byte) (s : State) : (append inf s).nfcid3Local = s.nfcid3Local := rfl
@[simp] theorem append_nfcid3Peer (inf : List Byte) (s : State) : (append inf s).nfcid3Peer = s.nfcid3Peer := rfl
@[simp] theorem append_gbLocal (inf : List Byte) (s : State) : (append inf s).gbLocal = s.gbLocal := rfl
@[simp] theorem append_gbPeer (inf : List Byte) (s : State) : (append inf s).gbPeer = s.gbPeer := rfl
@[simp] theorem append_ownBs (inf : List Byte) (s : State) : (append inf s).ownBs = s.ownBs := rfl
@[simp] theorem append_ownBr (inf : List Byte) (s : State) : (append inf s).ownBr = s.ownBr := rfl
@[simp] theorem append_peerBs (inf : List Byte) (s : State) : (append inf s).peerBs = s.peerBs := rfl
@[simp] theorem append_peerBr (inf : List Byte) (s : State) : (append inf s).peerBr = s.peerBr := rfl
@[simp] theorem append_peerLr (inf : List Byte) (s : State) : (append inf s).peerLr = s.peerLr := rfl
@[simp] theorem append_peerNadUsed (inf : List Byte) (s : State) : (append inf s).peerNadUsed = s.peerNadUsed := rfl
@[simp] theorem append_desiredBr (inf : List Byte) (s : State) : (append inf s).desiredBr = s.desiredBr := rfl
@[simp] theorem append_pni (inf : List Byte) (s : State) : (append inf s).pni = s.pni := rfl
@[simp] theorem append_txChaining (inf : List Byte) (s : State) : (append inf s).txChaining = s.txChaining := rfl
@[simp] theorem append_rxChaining (inf : List Byte) (s : State) : (append inf s).rxChaining = s.rxChaining := rfl
@[simp] theorem append_lastPfb (inf : List Byte) (s : State) : (append inf s).lastPfb = s.lastPfb := rfl
@[simp] theorem append_lastPfbExcludingAtn (inf : List Byte) (s : State) : (append inf s).lastPfbExcludingAtn = s.lastPfbExcludingAtn := rfl
@[simp] theorem append_lastRtoxValue (inf : List Byte) (s : State) : (append inf s).lastRtoxValue = s.lastRtoxValue := rfl
@[simp] theorem append_txRetries (inf : List Byte) (s : State) : (append inf s).txRetries = s.txRetries := rfl
@[simp] theorem append_timeoutRetries (inf : List Byte) (s : State) : (append inf s).timeoutRetries = s.timeoutRetries := rfl
@[simp] theorem append_rtoxRetries (inf : List Byte) (s : State) : (append inf s).rtoxRetries = s.rtoxRetries := rfl
@[simp] theorem append_nackRetries (inf : List Byte) (s : State) : (append inf s).nackRetries = s.nackRetries := rfl
@[simp] theorem append_atnRetries (inf : List Byte) (s : State) : (append inf s).atnRetries = s.atnRetries := rfl
@[simp] theorem append_atrRetries (inf : List Byte) (s : State) : (append inf s).atrRetries = s.atrRetries := rfl
@[simp] theorem append_pslRetries (inf : List Byte) (s : State) : (append inf s).pslRetries = s.pslRetries := rfl
@[simp] theorem append_txBuf (inf : List Byte) (s : State) : (append inf s).txBuf = s.txBuf := rfl
@[simp] theorem append_txLen (inf : List Byte) (s : State) : (append inf s).txLen = s.txLen := rfl
@[simp] theorem append_txOff (inf : List Byte) (s : State) : (append inf s).txOff = s.txOff := rfl
@[simp] theorem append_rxAcc (inf : List Byte) (s : State) : (append inf s).rxAcc = s.rxAcc.writeBytes s.rxLen inf := rfl
@[simp] theorem append_rxLen (inf : List Byte) (s : State) : (append inf s).rxLen = s.rxLen + inf.length := rfl
@[simp] theorem append_lastFrame (inf : List Byte) (s : State) : (append inf s).lastFrame = s.lastFrame := rfl
@[simp] theorem append_lastDeadline (inf : List Byte) (s : State) : (append inf s).lastDeadline = s.lastDeadline := rfl
@[simp] theorem append_pendingReq (inf : List Byte) (s : State) : (append inf s).pendingReq = s.pendingReq := rfl
@[simp] theorem append_txPending (inf : List Byte) (s : State) : (append inf s).txPending = s.txPending := rfl

/-! Loading the outbound buffer writes the buffer, its length and offset, and `tx_chaining` (R220, R280). -/

@[simp] theorem loadTxBuf_params (data : List Byte) (s : State) : (loadTxBuf data s).params = s.params := rfl
@[simp] theorem loadTxBuf_inputs (data : List Byte) (s : State) : (loadTxBuf data s).inputs = s.inputs := rfl
@[simp] theorem loadTxBuf_actions (data : List Byte) (s : State) : (loadTxBuf data s).actions = s.actions := rfl
@[simp] theorem loadTxBuf_status (data : List Byte) (s : State) : (loadTxBuf data s).status = s.status := rfl
@[simp] theorem loadTxBuf_st (data : List Byte) (s : State) : (loadTxBuf data s).st = s.st := rfl
@[simp] theorem loadTxBuf_cfgValid (data : List Byte) (s : State) : (loadTxBuf data s).cfgValid = s.cfgValid := rfl
@[simp] theorem loadTxBuf_role (data : List Byte) (s : State) : (loadTxBuf data s).role = s.role := rfl
@[simp] theorem loadTxBuf_commMode (data : List Byte) (s : State) : (loadTxBuf data s).commMode = s.commMode := rfl
@[simp] theorem loadTxBuf_did (data : List Byte) (s : State) : (loadTxBuf data s).did = s.did := rfl
@[simp] theorem loadTxBuf_nad (data : List Byte) (s : State) : (loadTxBuf data s).nad = s.nad := rfl
@[simp] theorem loadTxBuf_bitrateSend (data : List Byte) (s : State) : (loadTxBuf data s).bitrateSend = s.bitrateSend := rfl
@[simp] theorem loadTxBuf_bitrateRecv (data : List Byte) (s : State) : (loadTxBuf data s).bitrateRecv = s.bitrateRecv := rfl
@[simp] theorem loadTxBuf_lr (data : List Byte) (s : State) : (loadTxBuf data s).lr = s.lr := rfl
@[simp] theorem loadTxBuf_wt (data : List Byte) (s : State) : (loadTxBuf data s).wt = s.wt := rfl
@[simp] theorem loadTxBuf_oper (data : List Byte) (s : State) : (loadTxBuf data s).oper = s.oper := rfl
@[simp] theorem loadTxBuf_nfcid3Local (data : List Byte) (s : State) : (loadTxBuf data s).nfcid3Local = s.nfcid3Local := rfl
@[simp] theorem loadTxBuf_nfcid3Peer (data : List Byte) (s : State) : (loadTxBuf data s).nfcid3Peer = s.nfcid3Peer := rfl
@[simp] theorem loadTxBuf_gbLocal (data : List Byte) (s : State) : (loadTxBuf data s).gbLocal = s.gbLocal := rfl
@[simp] theorem loadTxBuf_gbPeer (data : List Byte) (s : State) : (loadTxBuf data s).gbPeer = s.gbPeer := rfl
@[simp] theorem loadTxBuf_ownBs (data : List Byte) (s : State) : (loadTxBuf data s).ownBs = s.ownBs := rfl
@[simp] theorem loadTxBuf_ownBr (data : List Byte) (s : State) : (loadTxBuf data s).ownBr = s.ownBr := rfl
@[simp] theorem loadTxBuf_peerBs (data : List Byte) (s : State) : (loadTxBuf data s).peerBs = s.peerBs := rfl
@[simp] theorem loadTxBuf_peerBr (data : List Byte) (s : State) : (loadTxBuf data s).peerBr = s.peerBr := rfl
@[simp] theorem loadTxBuf_peerLr (data : List Byte) (s : State) : (loadTxBuf data s).peerLr = s.peerLr := rfl
@[simp] theorem loadTxBuf_peerNadUsed (data : List Byte) (s : State) : (loadTxBuf data s).peerNadUsed = s.peerNadUsed := rfl
@[simp] theorem loadTxBuf_desiredBr (data : List Byte) (s : State) : (loadTxBuf data s).desiredBr = s.desiredBr := rfl
@[simp] theorem loadTxBuf_pni (data : List Byte) (s : State) : (loadTxBuf data s).pni = s.pni := rfl
@[simp] theorem loadTxBuf_txChaining (data : List Byte) (s : State) : (loadTxBuf data s).txChaining = false := rfl
@[simp] theorem loadTxBuf_rxChaining (data : List Byte) (s : State) : (loadTxBuf data s).rxChaining = s.rxChaining := rfl
@[simp] theorem loadTxBuf_lastPfb (data : List Byte) (s : State) : (loadTxBuf data s).lastPfb = s.lastPfb := rfl
@[simp] theorem loadTxBuf_lastPfbExcludingAtn (data : List Byte) (s : State) : (loadTxBuf data s).lastPfbExcludingAtn = s.lastPfbExcludingAtn := rfl
@[simp] theorem loadTxBuf_lastRtoxValue (data : List Byte) (s : State) : (loadTxBuf data s).lastRtoxValue = s.lastRtoxValue := rfl
@[simp] theorem loadTxBuf_txRetries (data : List Byte) (s : State) : (loadTxBuf data s).txRetries = s.txRetries := rfl
@[simp] theorem loadTxBuf_timeoutRetries (data : List Byte) (s : State) : (loadTxBuf data s).timeoutRetries = s.timeoutRetries := rfl
@[simp] theorem loadTxBuf_rtoxRetries (data : List Byte) (s : State) : (loadTxBuf data s).rtoxRetries = s.rtoxRetries := rfl
@[simp] theorem loadTxBuf_nackRetries (data : List Byte) (s : State) : (loadTxBuf data s).nackRetries = s.nackRetries := rfl
@[simp] theorem loadTxBuf_atnRetries (data : List Byte) (s : State) : (loadTxBuf data s).atnRetries = s.atnRetries := rfl
@[simp] theorem loadTxBuf_atrRetries (data : List Byte) (s : State) : (loadTxBuf data s).atrRetries = s.atrRetries := rfl
@[simp] theorem loadTxBuf_pslRetries (data : List Byte) (s : State) : (loadTxBuf data s).pslRetries = s.pslRetries := rfl
@[simp] theorem loadTxBuf_txBuf (data : List Byte) (s : State) : (loadTxBuf data s).txBuf = s.txBuf.writeBytes 0 data := rfl
@[simp] theorem loadTxBuf_txLen (data : List Byte) (s : State) : (loadTxBuf data s).txLen = data.length := rfl
@[simp] theorem loadTxBuf_txOff (data : List Byte) (s : State) : (loadTxBuf data s).txOff = 0 := rfl
@[simp] theorem loadTxBuf_rxAcc (data : List Byte) (s : State) : (loadTxBuf data s).rxAcc = s.rxAcc := rfl
@[simp] theorem loadTxBuf_rxLen (data : List Byte) (s : State) : (loadTxBuf data s).rxLen = s.rxLen := rfl
@[simp] theorem loadTxBuf_lastFrame (data : List Byte) (s : State) : (loadTxBuf data s).lastFrame = s.lastFrame := rfl
@[simp] theorem loadTxBuf_lastDeadline (data : List Byte) (s : State) : (loadTxBuf data s).lastDeadline = s.lastDeadline := rfl
@[simp] theorem loadTxBuf_pendingReq (data : List Byte) (s : State) : (loadTxBuf data s).pendingReq = s.pendingReq := rfl
@[simp] theorem loadTxBuf_txPending (data : List Byte) (s : State) : (loadTxBuf data s).txPending = s.txPending := rfl

/-! `retransmit` writes the action list and `last_pfb` only (R161). -/

@[simp] theorem retransmit_params (s : State) : (retransmit s).params = s.params := rfl
@[simp] theorem retransmit_inputs (s : State) : (retransmit s).inputs = s.inputs := rfl
@[simp] theorem retransmit_actions (s : State) : (retransmit s).actions = s.actions ++ [.rfTxRx s.lastFrame s.lastDeadline] := rfl
@[simp] theorem retransmit_status (s : State) : (retransmit s).status = s.status := rfl
@[simp] theorem retransmit_st (s : State) : (retransmit s).st = s.st := rfl
@[simp] theorem retransmit_cfgValid (s : State) : (retransmit s).cfgValid = s.cfgValid := rfl
@[simp] theorem retransmit_role (s : State) : (retransmit s).role = s.role := rfl
@[simp] theorem retransmit_commMode (s : State) : (retransmit s).commMode = s.commMode := rfl
@[simp] theorem retransmit_did (s : State) : (retransmit s).did = s.did := rfl
@[simp] theorem retransmit_nad (s : State) : (retransmit s).nad = s.nad := rfl
@[simp] theorem retransmit_bitrateSend (s : State) : (retransmit s).bitrateSend = s.bitrateSend := rfl
@[simp] theorem retransmit_bitrateRecv (s : State) : (retransmit s).bitrateRecv = s.bitrateRecv := rfl
@[simp] theorem retransmit_lr (s : State) : (retransmit s).lr = s.lr := rfl
@[simp] theorem retransmit_wt (s : State) : (retransmit s).wt = s.wt := rfl
@[simp] theorem retransmit_oper (s : State) : (retransmit s).oper = s.oper := rfl
@[simp] theorem retransmit_nfcid3Local (s : State) : (retransmit s).nfcid3Local = s.nfcid3Local := rfl
@[simp] theorem retransmit_nfcid3Peer (s : State) : (retransmit s).nfcid3Peer = s.nfcid3Peer := rfl
@[simp] theorem retransmit_gbLocal (s : State) : (retransmit s).gbLocal = s.gbLocal := rfl
@[simp] theorem retransmit_gbPeer (s : State) : (retransmit s).gbPeer = s.gbPeer := rfl
@[simp] theorem retransmit_ownBs (s : State) : (retransmit s).ownBs = s.ownBs := rfl
@[simp] theorem retransmit_ownBr (s : State) : (retransmit s).ownBr = s.ownBr := rfl
@[simp] theorem retransmit_peerBs (s : State) : (retransmit s).peerBs = s.peerBs := rfl
@[simp] theorem retransmit_peerBr (s : State) : (retransmit s).peerBr = s.peerBr := rfl
@[simp] theorem retransmit_peerLr (s : State) : (retransmit s).peerLr = s.peerLr := rfl
@[simp] theorem retransmit_peerNadUsed (s : State) : (retransmit s).peerNadUsed = s.peerNadUsed := rfl
@[simp] theorem retransmit_desiredBr (s : State) : (retransmit s).desiredBr = s.desiredBr := rfl
@[simp] theorem retransmit_pni (s : State) : (retransmit s).pni = s.pni := rfl
@[simp] theorem retransmit_txChaining (s : State) : (retransmit s).txChaining = s.txChaining := rfl
@[simp] theorem retransmit_rxChaining (s : State) : (retransmit s).rxChaining = s.rxChaining := rfl
@[simp] theorem retransmit_lastPfb (s : State) : (retransmit s).lastPfb = s.lastPfbExcludingAtn := rfl
@[simp] theorem retransmit_lastPfbExcludingAtn (s : State) : (retransmit s).lastPfbExcludingAtn = s.lastPfbExcludingAtn := rfl
@[simp] theorem retransmit_lastRtoxValue (s : State) : (retransmit s).lastRtoxValue = s.lastRtoxValue := rfl
@[simp] theorem retransmit_txRetries (s : State) : (retransmit s).txRetries = s.txRetries := rfl
@[simp] theorem retransmit_timeoutRetries (s : State) : (retransmit s).timeoutRetries = s.timeoutRetries := rfl
@[simp] theorem retransmit_rtoxRetries (s : State) : (retransmit s).rtoxRetries = s.rtoxRetries := rfl
@[simp] theorem retransmit_nackRetries (s : State) : (retransmit s).nackRetries = s.nackRetries := rfl
@[simp] theorem retransmit_atnRetries (s : State) : (retransmit s).atnRetries = s.atnRetries := rfl
@[simp] theorem retransmit_atrRetries (s : State) : (retransmit s).atrRetries = s.atrRetries := rfl
@[simp] theorem retransmit_pslRetries (s : State) : (retransmit s).pslRetries = s.pslRetries := rfl
@[simp] theorem retransmit_txBuf (s : State) : (retransmit s).txBuf = s.txBuf := rfl
@[simp] theorem retransmit_txLen (s : State) : (retransmit s).txLen = s.txLen := rfl
@[simp] theorem retransmit_txOff (s : State) : (retransmit s).txOff = s.txOff := rfl
@[simp] theorem retransmit_rxAcc (s : State) : (retransmit s).rxAcc = s.rxAcc := rfl
@[simp] theorem retransmit_rxLen (s : State) : (retransmit s).rxLen = s.rxLen := rfl
@[simp] theorem retransmit_lastFrame (s : State) : (retransmit s).lastFrame = s.lastFrame := rfl
@[simp] theorem retransmit_lastDeadline (s : State) : (retransmit s).lastDeadline = s.lastDeadline := rfl
@[simp] theorem retransmit_pendingReq (s : State) : (retransmit s).pendingReq = s.pendingReq := rfl
@[simp] theorem retransmit_txPending (s : State) : (retransmit s).txPending = s.txPending := rfl

/-! `record_tx` writes the five `last_*` registers only (R160). -/

@[simp] theorem recordTx_params (f : List Byte) (d : Deadline) (s : State) : (recordTx f d s).params = s.params := rfl
@[simp] theorem recordTx_inputs (f : List Byte) (d : Deadline) (s : State) : (recordTx f d s).inputs = s.inputs := rfl
@[simp] theorem recordTx_actions (f : List Byte) (d : Deadline) (s : State) : (recordTx f d s).actions = s.actions := rfl
@[simp] theorem recordTx_status (f : List Byte) (d : Deadline) (s : State) : (recordTx f d s).status = s.status := rfl
@[simp] theorem recordTx_st (f : List Byte) (d : Deadline) (s : State) : (recordTx f d s).st = s.st := rfl
@[simp] theorem recordTx_cfgValid (f : List Byte) (d : Deadline) (s : State) : (recordTx f d s).cfgValid = s.cfgValid := rfl
@[simp] theorem recordTx_role (f : List Byte) (d : Deadline) (s : State) : (recordTx f d s).role = s.role := rfl
@[simp] theorem recordTx_commMode (f : List Byte) (d : Deadline) (s : State) : (recordTx f d s).commMode = s.commMode := rfl
@[simp] theorem recordTx_did (f : List Byte) (d : Deadline) (s : State) : (recordTx f d s).did = s.did := rfl
@[simp] theorem recordTx_nad (f : List Byte) (d : Deadline) (s : State) : (recordTx f d s).nad = s.nad := rfl
@[simp] theorem recordTx_bitrateSend (f : List Byte) (d : Deadline) (s : State) : (recordTx f d s).bitrateSend = s.bitrateSend := rfl
@[simp] theorem recordTx_bitrateRecv (f : List Byte) (d : Deadline) (s : State) : (recordTx f d s).bitrateRecv = s.bitrateRecv := rfl
@[simp] theorem recordTx_lr (f : List Byte) (d : Deadline) (s : State) : (recordTx f d s).lr = s.lr := rfl
@[simp] theorem recordTx_wt (f : List Byte) (d : Deadline) (s : State) : (recordTx f d s).wt = s.wt := rfl
@[simp] theorem recordTx_oper (f : List Byte) (d : Deadline) (s : State) : (recordTx f d s).oper = s.oper := rfl
@[simp] theorem recordTx_nfcid3Local (f : List Byte) (d : Deadline) (s : State) : (recordTx f d s).nfcid3Local = s.nfcid3Local := rfl
@[simp] theorem recordTx_nfcid3Peer (f : List Byte) (d : Deadline) (s : State) : (recordTx f d s).nfcid3Peer = s.nfcid3Peer := rfl
@[simp] theorem recordTx_gbLocal (f : List Byte) (d : Deadline) (s : State) : (recordTx f d s).gbLocal = s.gbLocal := rfl
@[simp] theorem recordTx_gbPeer (f : List Byte) (d : Deadline) (s : State) : (recordTx f d s).gbPeer = s.gbPeer := rfl
@[simp] theorem recordTx_ownBs (f : List Byte) (d : Deadline) (s : State) : (recordTx f d s).ownBs = s.ownBs := rfl
@[simp] theorem recordTx_ownBr (f : List Byte) (d : Deadline) (s : State) : (recordTx f d s).ownBr = s.ownBr := rfl
@[simp] theorem recordTx_peerBs (f : List Byte) (d : Deadline) (s : State) : (recordTx f d s).peerBs = s.peerBs := rfl
@[simp] theorem recordTx_peerBr (f : List Byte) (d : Deadline) (s : State) : (recordTx f d s).peerBr = s.peerBr := rfl
@[simp] theorem recordTx_peerLr (f : List Byte) (d : Deadline) (s : State) : (recordTx f d s).peerLr = s.peerLr := rfl
@[simp] theorem recordTx_peerNadUsed (f : List Byte) (d : Deadline) (s : State) : (recordTx f d s).peerNadUsed = s.peerNadUsed := rfl
@[simp] theorem recordTx_desiredBr (f : List Byte) (d : Deadline) (s : State) : (recordTx f d s).desiredBr = s.desiredBr := rfl
@[simp] theorem recordTx_pni (f : List Byte) (d : Deadline) (s : State) : (recordTx f d s).pni = s.pni := rfl
@[simp] theorem recordTx_txChaining (f : List Byte) (d : Deadline) (s : State) : (recordTx f d s).txChaining = s.txChaining := rfl
@[simp] theorem recordTx_rxChaining (f : List Byte) (d : Deadline) (s : State) : (recordTx f d s).rxChaining = s.rxChaining := rfl
@[simp] theorem recordTx_lastPfb (f : List Byte) (d : Deadline) (s : State) : (recordTx f d s).lastPfb = some (framePfb f) := rfl
@[simp] theorem recordTx_lastPfbExcludingAtn (f : List Byte) (d : Deadline) (s : State) : (recordTx f d s).lastPfbExcludingAtn = if pfbClass (framePfb f) = some .atn then s.lastPfbExcludingAtn else some (framePfb f) := rfl
@[simp] theorem recordTx_lastRtoxValue (f : List Byte) (d : Deadline) (s : State) : (recordTx f d s).lastRtoxValue = if pfbClass (framePfb f) = some .rtox then f.getLastD 0 else s.lastRtoxValue := rfl
@[simp] theorem recordTx_txRetries (f : List Byte) (d : Deadline) (s : State) : (recordTx f d s).txRetries = s.txRetries := rfl
@[simp] theorem recordTx_timeoutRetries (f : List Byte) (d : Deadline) (s : State) : (recordTx f d s).timeoutRetries = s.timeoutRetries := rfl
@[simp] theorem recordTx_rtoxRetries (f : List Byte) (d : Deadline) (s : State) : (recordTx f d s).rtoxRetries = s.rtoxRetries := rfl
@[simp] theorem recordTx_nackRetries (f : List Byte) (d : Deadline) (s : State) : (recordTx f d s).nackRetries = s.nackRetries := rfl
@[simp] theorem recordTx_atnRetries (f : List Byte) (d : Deadline) (s : State) : (recordTx f d s).atnRetries = s.atnRetries := rfl
@[simp] theorem recordTx_atrRetries (f : List Byte) (d : Deadline) (s : State) : (recordTx f d s).atrRetries = s.atrRetries := rfl
@[simp] theorem recordTx_pslRetries (f : List Byte) (d : Deadline) (s : State) : (recordTx f d s).pslRetries = s.pslRetries := rfl
@[simp] theorem recordTx_txBuf (f : List Byte) (d : Deadline) (s : State) : (recordTx f d s).txBuf = s.txBuf := rfl
@[simp] theorem recordTx_txLen (f : List Byte) (d : Deadline) (s : State) : (recordTx f d s).txLen = s.txLen := rfl
@[simp] theorem recordTx_txOff (f : List Byte) (d : Deadline) (s : State) : (recordTx f d s).txOff = s.txOff := rfl
@[simp] theorem recordTx_rxAcc (f : List Byte) (d : Deadline) (s : State) : (recordTx f d s).rxAcc = s.rxAcc := rfl
@[simp] theorem recordTx_rxLen (f : List Byte) (d : Deadline) (s : State) : (recordTx f d s).rxLen = s.rxLen := rfl
@[simp] theorem recordTx_lastFrame (f : List Byte) (d : Deadline) (s : State) : (recordTx f d s).lastFrame = if pfbClass (framePfb f) = some .atn then s.lastFrame else f := rfl
@[simp] theorem recordTx_lastDeadline (f : List Byte) (d : Deadline) (s : State) : (recordTx f d s).lastDeadline = if pfbClass (framePfb f) = some .atn then s.lastDeadline else d := rfl
@[simp] theorem recordTx_pendingReq (f : List Byte) (d : Deadline) (s : State) : (recordTx f d s).pendingReq = s.pendingReq := rfl
@[simp] theorem recordTx_txPending (f : List Byte) (d : Deadline) (s : State) : (recordTx f d s).txPending = s.txPending := rfl

/-! Transmitting a DEP frame emits one action and records it: everything else is as it was (R160). -/

@[simp] theorem sendDep_params (k : DepKind) (p : List Byte) (d : Deadline) (s : State) : (sendDep k p d s).params = s.params := rfl
@[simp] theorem sendDep_inputs (k : DepKind) (p : List Byte) (d : Deadline) (s : State) : (sendDep k p d s).inputs = s.inputs := rfl
@[simp] theorem sendDep_actions (k : DepKind) (p : List Byte) (d : Deadline) (s : State) : (sendDep k p d s).actions = s.actions ++ [.rfTxRx (encodeDep k p s) d] := rfl
@[simp] theorem sendDep_status (k : DepKind) (p : List Byte) (d : Deadline) (s : State) : (sendDep k p d s).status = s.status := rfl
@[simp] theorem sendDep_st (k : DepKind) (p : List Byte) (d : Deadline) (s : State) : (sendDep k p d s).st = s.st := rfl
@[simp] theorem sendDep_cfgValid (k : DepKind) (p : List Byte) (d : Deadline) (s : State) : (sendDep k p d s).cfgValid = s.cfgValid := rfl
@[simp] theorem sendDep_role (k : DepKind) (p : List Byte) (d : Deadline) (s : State) : (sendDep k p d s).role = s.role := rfl
@[simp] theorem sendDep_commMode (k : DepKind) (p : List Byte) (d : Deadline) (s : State) : (sendDep k p d s).commMode = s.commMode := rfl
@[simp] theorem sendDep_did (k : DepKind) (p : List Byte) (d : Deadline) (s : State) : (sendDep k p d s).did = s.did := rfl
@[simp] theorem sendDep_nad (k : DepKind) (p : List Byte) (d : Deadline) (s : State) : (sendDep k p d s).nad = s.nad := rfl
@[simp] theorem sendDep_bitrateSend (k : DepKind) (p : List Byte) (d : Deadline) (s : State) : (sendDep k p d s).bitrateSend = s.bitrateSend := rfl
@[simp] theorem sendDep_bitrateRecv (k : DepKind) (p : List Byte) (d : Deadline) (s : State) : (sendDep k p d s).bitrateRecv = s.bitrateRecv := rfl
@[simp] theorem sendDep_lr (k : DepKind) (p : List Byte) (d : Deadline) (s : State) : (sendDep k p d s).lr = s.lr := rfl
@[simp] theorem sendDep_wt (k : DepKind) (p : List Byte) (d : Deadline) (s : State) : (sendDep k p d s).wt = s.wt := rfl
@[simp] theorem sendDep_oper (k : DepKind) (p : List Byte) (d : Deadline) (s : State) : (sendDep k p d s).oper = s.oper := rfl
@[simp] theorem sendDep_nfcid3Local (k : DepKind) (p : List Byte) (d : Deadline) (s : State) : (sendDep k p d s).nfcid3Local = s.nfcid3Local := rfl
@[simp] theorem sendDep_nfcid3Peer (k : DepKind) (p : List Byte) (d : Deadline) (s : State) : (sendDep k p d s).nfcid3Peer = s.nfcid3Peer := rfl
@[simp] theorem sendDep_gbLocal (k : DepKind) (p : List Byte) (d : Deadline) (s : State) : (sendDep k p d s).gbLocal = s.gbLocal := rfl
@[simp] theorem sendDep_gbPeer (k : DepKind) (p : List Byte) (d : Deadline) (s : State) : (sendDep k p d s).gbPeer = s.gbPeer := rfl
@[simp] theorem sendDep_ownBs (k : DepKind) (p : List Byte) (d : Deadline) (s : State) : (sendDep k p d s).ownBs = s.ownBs := rfl
@[simp] theorem sendDep_ownBr (k : DepKind) (p : List Byte) (d : Deadline) (s : State) : (sendDep k p d s).ownBr = s.ownBr := rfl
@[simp] theorem sendDep_peerBs (k : DepKind) (p : List Byte) (d : Deadline) (s : State) : (sendDep k p d s).peerBs = s.peerBs := rfl
@[simp] theorem sendDep_peerBr (k : DepKind) (p : List Byte) (d : Deadline) (s : State) : (sendDep k p d s).peerBr = s.peerBr := rfl
@[simp] theorem sendDep_peerLr (k : DepKind) (p : List Byte) (d : Deadline) (s : State) : (sendDep k p d s).peerLr = s.peerLr := rfl
@[simp] theorem sendDep_peerNadUsed (k : DepKind) (p : List Byte) (d : Deadline) (s : State) : (sendDep k p d s).peerNadUsed = s.peerNadUsed := rfl
@[simp] theorem sendDep_desiredBr (k : DepKind) (p : List Byte) (d : Deadline) (s : State) : (sendDep k p d s).desiredBr = s.desiredBr := rfl
@[simp] theorem sendDep_pni (k : DepKind) (p : List Byte) (d : Deadline) (s : State) : (sendDep k p d s).pni = s.pni := rfl
@[simp] theorem sendDep_txChaining (k : DepKind) (p : List Byte) (d : Deadline) (s : State) : (sendDep k p d s).txChaining = s.txChaining := rfl
@[simp] theorem sendDep_rxChaining (k : DepKind) (p : List Byte) (d : Deadline) (s : State) : (sendDep k p d s).rxChaining = s.rxChaining := rfl
@[simp] theorem sendDep_txRetries (k : DepKind) (p : List Byte) (d : Deadline) (s : State) : (sendDep k p d s).txRetries = s.txRetries := rfl
@[simp] theorem sendDep_timeoutRetries (k : DepKind) (p : List Byte) (d : Deadline) (s : State) : (sendDep k p d s).timeoutRetries = s.timeoutRetries := rfl
@[simp] theorem sendDep_rtoxRetries (k : DepKind) (p : List Byte) (d : Deadline) (s : State) : (sendDep k p d s).rtoxRetries = s.rtoxRetries := rfl
@[simp] theorem sendDep_nackRetries (k : DepKind) (p : List Byte) (d : Deadline) (s : State) : (sendDep k p d s).nackRetries = s.nackRetries := rfl
@[simp] theorem sendDep_atnRetries (k : DepKind) (p : List Byte) (d : Deadline) (s : State) : (sendDep k p d s).atnRetries = s.atnRetries := rfl
@[simp] theorem sendDep_atrRetries (k : DepKind) (p : List Byte) (d : Deadline) (s : State) : (sendDep k p d s).atrRetries = s.atrRetries := rfl
@[simp] theorem sendDep_pslRetries (k : DepKind) (p : List Byte) (d : Deadline) (s : State) : (sendDep k p d s).pslRetries = s.pslRetries := rfl
@[simp] theorem sendDep_txBuf (k : DepKind) (p : List Byte) (d : Deadline) (s : State) : (sendDep k p d s).txBuf = s.txBuf := rfl
@[simp] theorem sendDep_txLen (k : DepKind) (p : List Byte) (d : Deadline) (s : State) : (sendDep k p d s).txLen = s.txLen := rfl
@[simp] theorem sendDep_txOff (k : DepKind) (p : List Byte) (d : Deadline) (s : State) : (sendDep k p d s).txOff = s.txOff := rfl
@[simp] theorem sendDep_rxAcc (k : DepKind) (p : List Byte) (d : Deadline) (s : State) : (sendDep k p d s).rxAcc = s.rxAcc := rfl
@[simp] theorem sendDep_rxLen (k : DepKind) (p : List Byte) (d : Deadline) (s : State) : (sendDep k p d s).rxLen = s.rxLen := rfl
@[simp] theorem sendDep_pendingReq (k : DepKind) (p : List Byte) (d : Deadline) (s : State) : (sendDep k p d s).pendingReq = s.pendingReq := rfl
@[simp] theorem sendDep_txPending (k : DepKind) (p : List Byte) (d : Deadline) (s : State) : (sendDep k p d s).txPending = s.txPending := rfl

/-! `bump` writes the counter it names only (R16). -/

@[simp] theorem bump_params (c : Counter) (s : State) : (bump c s).params = s.params := by cases c <;> rfl
@[simp] theorem bump_inputs (c : Counter) (s : State) : (bump c s).inputs = s.inputs := by cases c <;> rfl
@[simp] theorem bump_actions (c : Counter) (s : State) : (bump c s).actions = s.actions := by cases c <;> rfl
@[simp] theorem bump_status (c : Counter) (s : State) : (bump c s).status = s.status := by cases c <;> rfl
@[simp] theorem bump_st (c : Counter) (s : State) : (bump c s).st = s.st := by cases c <;> rfl
@[simp] theorem bump_cfgValid (c : Counter) (s : State) : (bump c s).cfgValid = s.cfgValid := by cases c <;> rfl
@[simp] theorem bump_role (c : Counter) (s : State) : (bump c s).role = s.role := by cases c <;> rfl
@[simp] theorem bump_commMode (c : Counter) (s : State) : (bump c s).commMode = s.commMode := by cases c <;> rfl
@[simp] theorem bump_did (c : Counter) (s : State) : (bump c s).did = s.did := by cases c <;> rfl
@[simp] theorem bump_nad (c : Counter) (s : State) : (bump c s).nad = s.nad := by cases c <;> rfl
@[simp] theorem bump_bitrateSend (c : Counter) (s : State) : (bump c s).bitrateSend = s.bitrateSend := by cases c <;> rfl
@[simp] theorem bump_bitrateRecv (c : Counter) (s : State) : (bump c s).bitrateRecv = s.bitrateRecv := by cases c <;> rfl
@[simp] theorem bump_lr (c : Counter) (s : State) : (bump c s).lr = s.lr := by cases c <;> rfl
@[simp] theorem bump_wt (c : Counter) (s : State) : (bump c s).wt = s.wt := by cases c <;> rfl
@[simp] theorem bump_oper (c : Counter) (s : State) : (bump c s).oper = s.oper := by cases c <;> rfl
@[simp] theorem bump_nfcid3Local (c : Counter) (s : State) : (bump c s).nfcid3Local = s.nfcid3Local := by cases c <;> rfl
@[simp] theorem bump_nfcid3Peer (c : Counter) (s : State) : (bump c s).nfcid3Peer = s.nfcid3Peer := by cases c <;> rfl
@[simp] theorem bump_gbLocal (c : Counter) (s : State) : (bump c s).gbLocal = s.gbLocal := by cases c <;> rfl
@[simp] theorem bump_gbPeer (c : Counter) (s : State) : (bump c s).gbPeer = s.gbPeer := by cases c <;> rfl
@[simp] theorem bump_ownBs (c : Counter) (s : State) : (bump c s).ownBs = s.ownBs := by cases c <;> rfl
@[simp] theorem bump_ownBr (c : Counter) (s : State) : (bump c s).ownBr = s.ownBr := by cases c <;> rfl
@[simp] theorem bump_peerBs (c : Counter) (s : State) : (bump c s).peerBs = s.peerBs := by cases c <;> rfl
@[simp] theorem bump_peerBr (c : Counter) (s : State) : (bump c s).peerBr = s.peerBr := by cases c <;> rfl
@[simp] theorem bump_peerLr (c : Counter) (s : State) : (bump c s).peerLr = s.peerLr := by cases c <;> rfl
@[simp] theorem bump_peerNadUsed (c : Counter) (s : State) : (bump c s).peerNadUsed = s.peerNadUsed := by cases c <;> rfl
@[simp] theorem bump_desiredBr (c : Counter) (s : State) : (bump c s).desiredBr = s.desiredBr := by cases c <;> rfl
@[simp] theorem bump_pni (c : Counter) (s : State) : (bump c s).pni = s.pni := by cases c <;> rfl
@[simp] theorem bump_txChaining (c : Counter) (s : State) : (bump c s).txChaining = s.txChaining := by cases c <;> rfl
@[simp] theorem bump_rxChaining (c : Counter) (s : State) : (bump c s).rxChaining = s.rxChaining := by cases c <;> rfl
@[simp] theorem bump_lastPfb (c : Counter) (s : State) : (bump c s).lastPfb = s.lastPfb := by cases c <;> rfl
@[simp] theorem bump_lastPfbExcludingAtn (c : Counter) (s : State) : (bump c s).lastPfbExcludingAtn = s.lastPfbExcludingAtn := by cases c <;> rfl
@[simp] theorem bump_lastRtoxValue (c : Counter) (s : State) : (bump c s).lastRtoxValue = s.lastRtoxValue := by cases c <;> rfl
@[simp] theorem bump_txBuf (c : Counter) (s : State) : (bump c s).txBuf = s.txBuf := by cases c <;> rfl
@[simp] theorem bump_txLen (c : Counter) (s : State) : (bump c s).txLen = s.txLen := by cases c <;> rfl
@[simp] theorem bump_txOff (c : Counter) (s : State) : (bump c s).txOff = s.txOff := by cases c <;> rfl
@[simp] theorem bump_rxAcc (c : Counter) (s : State) : (bump c s).rxAcc = s.rxAcc := by cases c <;> rfl
@[simp] theorem bump_rxLen (c : Counter) (s : State) : (bump c s).rxLen = s.rxLen := by cases c <;> rfl
@[simp] theorem bump_lastFrame (c : Counter) (s : State) : (bump c s).lastFrame = s.lastFrame := by cases c <;> rfl
@[simp] theorem bump_lastDeadline (c : Counter) (s : State) : (bump c s).lastDeadline = s.lastDeadline := by cases c <;> rfl
@[simp] theorem bump_pendingReq (c : Counter) (s : State) : (bump c s).pendingReq = s.pendingReq := by cases c <;> rfl
@[simp] theorem bump_txPending (c : Counter) (s : State) : (bump c s).txPending = s.txPending := by cases c <;> rfl

@[simp] theorem counterOf_bump (c : Counter) (s : State) : counterOf c (bump c s) = counterOf c s + 1 := by
  cases c <;> rfl

theorem counterOf_bump_of_ne {c c' : Counter} (h : c' ≠ c) (s : State) : counterOf c' (bump c s) = counterOf c' s := by
  cases c <;> cases c' <;> first | rfl | exact absurd rfl h

/-! The activation reset leaves the four fields that are no registers of S (R361). -/

@[simp] theorem resetRegisters_params (s : State) : (resetRegisters s).params = s.params := rfl
@[simp] theorem resetRegisters_inputs (s : State) : (resetRegisters s).inputs = s.inputs := rfl
@[simp] theorem resetRegisters_actions (s : State) : (resetRegisters s).actions = s.actions := rfl
@[simp] theorem resetRegisters_status (s : State) : (resetRegisters s).status = s.status := rfl
@[simp] theorem resetRegisters_st (s : State) : (resetRegisters s).st = State.reset.st := rfl
@[simp] theorem resetRegisters_cfgValid (s : State) : (resetRegisters s).cfgValid = State.reset.cfgValid := rfl
@[simp] theorem resetRegisters_role (s : State) : (resetRegisters s).role = State.reset.role := rfl
@[simp] theorem resetRegisters_commMode (s : State) : (resetRegisters s).commMode = State.reset.commMode := rfl
@[simp] theorem resetRegisters_did (s : State) : (resetRegisters s).did = State.reset.did := rfl
@[simp] theorem resetRegisters_nad (s : State) : (resetRegisters s).nad = State.reset.nad := rfl
@[simp] theorem resetRegisters_bitrateSend (s : State) : (resetRegisters s).bitrateSend = State.reset.bitrateSend := rfl
@[simp] theorem resetRegisters_bitrateRecv (s : State) : (resetRegisters s).bitrateRecv = State.reset.bitrateRecv := rfl
@[simp] theorem resetRegisters_lr (s : State) : (resetRegisters s).lr = State.reset.lr := rfl
@[simp] theorem resetRegisters_wt (s : State) : (resetRegisters s).wt = State.reset.wt := rfl
@[simp] theorem resetRegisters_oper (s : State) : (resetRegisters s).oper = State.reset.oper := rfl
@[simp] theorem resetRegisters_nfcid3Local (s : State) : (resetRegisters s).nfcid3Local = State.reset.nfcid3Local := rfl
@[simp] theorem resetRegisters_nfcid3Peer (s : State) : (resetRegisters s).nfcid3Peer = State.reset.nfcid3Peer := rfl
@[simp] theorem resetRegisters_gbLocal (s : State) : (resetRegisters s).gbLocal = State.reset.gbLocal := rfl
@[simp] theorem resetRegisters_gbPeer (s : State) : (resetRegisters s).gbPeer = State.reset.gbPeer := rfl
@[simp] theorem resetRegisters_ownBs (s : State) : (resetRegisters s).ownBs = State.reset.ownBs := rfl
@[simp] theorem resetRegisters_ownBr (s : State) : (resetRegisters s).ownBr = State.reset.ownBr := rfl
@[simp] theorem resetRegisters_peerBs (s : State) : (resetRegisters s).peerBs = State.reset.peerBs := rfl
@[simp] theorem resetRegisters_peerBr (s : State) : (resetRegisters s).peerBr = State.reset.peerBr := rfl
@[simp] theorem resetRegisters_peerLr (s : State) : (resetRegisters s).peerLr = State.reset.peerLr := rfl
@[simp] theorem resetRegisters_peerNadUsed (s : State) : (resetRegisters s).peerNadUsed = State.reset.peerNadUsed := rfl
@[simp] theorem resetRegisters_desiredBr (s : State) : (resetRegisters s).desiredBr = State.reset.desiredBr := rfl
@[simp] theorem resetRegisters_pni (s : State) : (resetRegisters s).pni = State.reset.pni := rfl
@[simp] theorem resetRegisters_txChaining (s : State) : (resetRegisters s).txChaining = State.reset.txChaining := rfl
@[simp] theorem resetRegisters_rxChaining (s : State) : (resetRegisters s).rxChaining = State.reset.rxChaining := rfl
@[simp] theorem resetRegisters_lastPfb (s : State) : (resetRegisters s).lastPfb = State.reset.lastPfb := rfl
@[simp] theorem resetRegisters_lastPfbExcludingAtn (s : State) : (resetRegisters s).lastPfbExcludingAtn = State.reset.lastPfbExcludingAtn := rfl
@[simp] theorem resetRegisters_lastRtoxValue (s : State) : (resetRegisters s).lastRtoxValue = State.reset.lastRtoxValue := rfl
@[simp] theorem resetRegisters_txRetries (s : State) : (resetRegisters s).txRetries = State.reset.txRetries := rfl
@[simp] theorem resetRegisters_timeoutRetries (s : State) : (resetRegisters s).timeoutRetries = State.reset.timeoutRetries := rfl
@[simp] theorem resetRegisters_rtoxRetries (s : State) : (resetRegisters s).rtoxRetries = State.reset.rtoxRetries := rfl
@[simp] theorem resetRegisters_nackRetries (s : State) : (resetRegisters s).nackRetries = State.reset.nackRetries := rfl
@[simp] theorem resetRegisters_atnRetries (s : State) : (resetRegisters s).atnRetries = State.reset.atnRetries := rfl
@[simp] theorem resetRegisters_atrRetries (s : State) : (resetRegisters s).atrRetries = State.reset.atrRetries := rfl
@[simp] theorem resetRegisters_pslRetries (s : State) : (resetRegisters s).pslRetries = State.reset.pslRetries := rfl
@[simp] theorem resetRegisters_txBuf (s : State) : (resetRegisters s).txBuf = State.reset.txBuf := rfl
@[simp] theorem resetRegisters_txLen (s : State) : (resetRegisters s).txLen = State.reset.txLen := rfl
@[simp] theorem resetRegisters_txOff (s : State) : (resetRegisters s).txOff = State.reset.txOff := rfl
@[simp] theorem resetRegisters_rxAcc (s : State) : (resetRegisters s).rxAcc = State.reset.rxAcc := rfl
@[simp] theorem resetRegisters_rxLen (s : State) : (resetRegisters s).rxLen = State.reset.rxLen := rfl
@[simp] theorem resetRegisters_lastFrame (s : State) : (resetRegisters s).lastFrame = State.reset.lastFrame := rfl
@[simp] theorem resetRegisters_lastDeadline (s : State) : (resetRegisters s).lastDeadline = State.reset.lastDeadline := rfl
@[simp] theorem resetRegisters_pendingReq (s : State) : (resetRegisters s).pendingReq = State.reset.pendingReq := rfl
@[simp] theorem resetRegisters_txPending (s : State) : (resetRegisters s).txPending = State.reset.txPending := rfl

end Sys2Proof.Machine
end

