-- ==== Sys2Proof/Laws/Ops.lean ====
section
/-! SUPPORT. For each shared operation, once, everything it can do; later proofs cite these and do not unfold it. -/

namespace Sys2Proof.Machine

/-! ### Outcomes -/

theorem ret_eq (σ : Status) (s : State) : ret σ s = .next { s with status := σ } := rfl

@[simp] theorem ret_eq_next {σ : Status} {s t : State} : ret σ s = .next t ↔ t = { s with status := σ } := by
  simp [ret, eq_comm]

theorem hostError_eq (e : Err) (s : State) : hostError e s = .next { s with status := .err e } := rfl

/-- *Ignore* re-arms and changes no register (44_dep_target.md R261). -/
theorem ignore_eq (s : State) :
    ignore s = .next { s with actions := s.actions ++ [.rfRx .noDeadline], status := .inProgress } := rfl

/-- Terminal entry, whole (60_exceptions.md R340). -/
theorem raise_eq (e : Err) (s : State) :
    raise e s = .next
      { s with
        actions := s.actions ++ terminalActions (landing s.st)
        txPending := false
        pendingReq := []
        txChaining := false
        rxChaining := false
        st := landing s.st
        cfgValid := if landing s.st = .idle then false else s.cfgValid
        status := .err e } := rfl

/-- Terminal entry in the words of Safety. -/
theorem raise_eq_raised (e : Err) (s : State) : raise e s = .next (raised e (landing s.st) s) := by
  simp only [raise, raised, ret, terminalActions]
  by_cases h : landing s.st = .idle <;> simp [h]

/-- *Ignore* in the words of Safety. -/
theorem ignore_eq_rearmed (s : State) : ignore s = .next (rearmed s) := rfl

/-- A step on a presented input is the work of that input on an empty action list. -/
theorem step_presenting (input : Input) (d : Bool) (s : State) :
    step (presenting input d s) =
      match workOf input d { s with actions := [] } with
      | .run i s' => exec i s'
      | .finished r => r := rfl

/-! ### Counters -/

/-- A retry is allowed exactly below the ceiling, and then adds one (00_scope.md R16). -/
theorem retry_cases (c : Counter) (s : State) :
    (ceilingOf c s.params ≤ counterOf c s ∧ retry c s = none) ∨
      (counterOf c s < ceilingOf c s.params ∧ retry c s = some (bump c s)) := by
  by_cases h : ceilingOf c s.params ≤ counterOf c s
  · exact .inl ⟨h, by simp [retry, h]⟩
  · exact .inr ⟨by omega, by simp [retry, h]⟩

theorem withRetry_of_lt {c : Counter} {s : State} (exhausted allowed : State → Result)
    (h : counterOf c s < ceilingOf c s.params) : withRetry c exhausted allowed s = allowed (bump c s) := by
  simp [withRetry, retry, show ¬ ceilingOf c s.params ≤ counterOf c s by omega]

theorem withRetry_of_le {c : Counter} {s : State} (exhausted allowed : State → Result)
    (h : ceilingOf c s.params ≤ counterOf c s) : withRetry c exhausted allowed s = exhausted s := by
  simp [withRetry, retry, h]

/-- What `withRetry` does: the allowed branch on a bumped counter, or the exhausted one on an unchanged state. -/
theorem withRetry_cases (c : Counter) (exhausted allowed : State → Result) (s : State) :
    (counterOf c s < ceilingOf c s.params ∧ withRetry c exhausted allowed s = allowed (bump c s)) ∨
      (ceilingOf c s.params ≤ counterOf c s ∧ withRetry c exhausted allowed s = exhausted s) := by
  rcases retry_cases c s with ⟨h, -⟩ | ⟨h, -⟩
  · exact .inr ⟨h, withRetry_of_le _ _ h⟩
  · exact .inl ⟨h, withRetry_of_lt _ _ h⟩

@[simp] theorem counterOf_clearCounters (c : Counter) (s : State) :
    counterOf c (clearCounters s) =
      match c with
      | .tx | .timeout | .rtox | .nack | .atn => 0
      | .atr => s.atrRetries
      | .psl => s.pslRetries := by
  cases c <;> rfl

/-! ### Frame sizes (10_state.md R30, 30_encoding.md R87) -/

theorem frameSize_bounds (lr : BitVec 2) : Config.fsMin ≤ frameSize lr ∧ frameSize lr ≤ 254 := by
  revert lr; decide

theorem hdrLen_bounds (did nad : Byte) : 3 ≤ hdrLen did nad ∧ hdrLen did nad ≤ 5 := by
  unfold hdrLen; split <;> split <;> omega

/-- `max_inf ≥ 59` always (41_sequencing_chaining_counters.md R155). -/
theorem maxInf_bounds (s : State) : 59 ≤ maxInf s ∧ maxInf s + hdrLen s.did s.nad ≤ 254 := by
  have h1 := frameSize_bounds s.lr
  have h2 := hdrLen_bounds s.did s.nad
  simp only [Config.fsMin] at h1
  unfold maxInf
  omega

/-! ### Chaining -/

/-- `next_block` reads what the buffer holds, moves the offset, and changes nothing else (R155). -/
theorem nextBlock_eq_some {s s' : State} {inf : List Byte} {mi : Bool} :
    nextBlock s = some (inf, mi, s') ↔
      s.txBuf.readBytes s.txOff (nextBlockLen s) = some inf ∧
        mi = decide (s.txOff + nextBlockLen s < s.txLen) ∧ s' = { s with txOff := s.txOff + nextBlockLen s } := by
  unfold nextBlock
  split
  · rename_i h
    simp [h]
  · rename_i bs h
    simp only [h, Option.some.injEq, Prod.mk.injEq]
    constructor
    · rintro ⟨rfl, rfl, rfl⟩; exact ⟨rfl, rfl, rfl⟩
    · rintro ⟨rfl, rfl, rfl⟩; exact ⟨rfl, rfl, rfl⟩

/-- In a buffer written below `tx_len` a block can always be read (20_memory.md R66). -/
theorem nextBlock_isSome {s : State} (h : BufferInv s) : ∃ r, nextBlock s = some r := by
  have hread : ∀ (n off : Nat), off + n ≤ s.txLen → ∃ inf, s.txBuf.readBytes off n = some inf := by
    intro n
    induction n with
    | zero => exact fun off _ => ⟨[], rfl⟩
    | succ n ih =>
      intro off hle
      obtain ⟨b, hb⟩ := Option.isSome_iff_exists.1 (h.tx.written off (by omega))
      obtain ⟨bs, hbs⟩ := ih (off + 1) (by omega)
      exact ⟨b :: bs, by simp [Memory.readBytes, hb, hbs]⟩
  have hoff := h.off_le
  obtain ⟨inf, hinf⟩ := hread (nextBlockLen s) s.txOff (by unfold nextBlockLen; omega)
  exact ⟨_, by simp [nextBlock, hinf]; rfl⟩

/-! ### What a state does with an input it does not wait for (10_state.md R22) -/

theorem tick_of_not_send {s : State} (h : isSendSt s.st = false) : tick s = ret (restStatus s.st) s := by
  unfold tick
  cases hs : s.st <;> simp_all [isSendSt]

/-- Every result of `tick`: a send, or nothing but a status. -/
theorem tick_cases (s : State) :
    (s.st = .iSendAtr ∧ tick s = sendAtrReq s) ∨ (s.st = .iSendPsl ∧ tick s = sendPslReq s) ∨
      (s.st = .iDepTx ∧ tick s = sendBlockInitiator s) ∨ (s.st = .iSendDsl ∧ tick s = sendDslReq s) ∨
      (s.st = .iSendRls ∧ tick s = sendRlsReq s) ∨ (s.st = .tSendAtrRes ∧ tick s = sendAtrRes s) ∨
      (s.st = .tDepTx ∧ tick s = sendBlockTarget s) ∨
      (isSendSt s.st = false ∧ tick s = ret (restStatus s.st) s) := by
  cases hs : s.st <;> simp [tick, hs, isSendSt]

/-- Every result of a frame the state does not accept. -/
theorem unexpected_cases (s : State) :
    (waitsForRf s.st = false ∧ unexpected s = tick s) ∨
      (waitsForRf s.st = true ∧ (isInitiatorSt s.st = true ∨ s.st = .tWaitAtr) ∧
        unexpected s = raise .protocolError s) ∨
      (waitsForRf s.st = true ∧ isTargetSt s.st = true ∧ s.st ≠ .tWaitAtr ∧ unexpected s = ignore s) := by
  cases hs : s.st <;> simp [unexpected, hs, waitsForRf, isInitiatorSt, isTargetSt]

/-- A frame in a state that does not wait for `Rf` is discarded (10_state.md R22 (c)). -/
theorem exec_of_not_waiting {s : State} (h : waitsForRf s.st = false) (i : Instr) : exec i s = tick s := by
  cases hs : s.st <;> rw [hs] at h <;> simp only [waitsForRf, Bool.true_eq_false] at h <;> cases i <;>
    simp [exec, execAtrReq, execAtrRes, execPslReq, execPslRes, execDepReqI, execDepReqAck, execDepReqNack,
      execDepReqAtn, execDepReqRtox, onDepReq, execDepResI, execDepResAck, execDepResNack, execDepResAtn,
      execDepResRtox, onDepRes, execDslReq, execDslRes, execRlsReq, execRlsRes, takesDeactReq, unexpected, hs]

/-- A PSL_RES passes exactly when the DID byte that is due comes first; anything may follow it (40_codec.md R131). -/
theorem pslResDidOk_iff (body : List Byte) (s : State) :
    pslResDidOk body s = true ↔ ∃ trail, body = (pslDid s).toList ++ trail := by
  rw [pslResDidOk, List.isPrefixOf_iff_prefix]
  exact ⟨fun ⟨t, h⟩ => ⟨t, h.symm⟩, fun ⟨t, h⟩ => ⟨t, h.symm⟩⟩

/-- Every result of an RF error, by state (R184 to R186, R192, R201, R206, R223, R263, R307). -/
theorem rfError_cases (e : RfErr) (n : Nat) (d : Bool) (s : State) :
    (waitsForRf s.st = false ∧ rfError e n d s = tick s) ∨
      (waitsForRf s.st = true ∧ isTargetSt s.st = true ∧ rfError e n d s = targetRfError e s) ∨
      (waitsForRf s.st = true ∧ isInitiatorSt s.st = true ∧
        ((∃ k, e = .transmission k ∧ s.st = .iAwaitAtrRes ∧ rfError e n d s = retryAtr k s) ∨
          (∃ k, e = .transmission k ∧ s.st = .iAwaitPslRes ∧ rfError e n d s = retryPsl k s) ∨
          (∃ k, e = .transmission k ∧ s.st = .iDepRx ∧ rfError e n d s = recoverTransmission n s) ∨
          (e = .timeout ∧ s.st = .iDepRx ∧ rfError e n d s = recoverTimeout d s) ∨
          rfError e n d s = raise (rfErrAsErr e) s)) := by
  cases hs : s.st <;> cases e <;> simp [rfError, hs, waitsForRf, isInitiatorSt, isTargetSt, rfErrAsErr]

/-! ### Encoded DEP frames (40_codec.md R132) -/

@[simp] theorem framePfb_encodeDep (k : DepKind) (payload : List Byte) (s : State) :
    framePfb (encodeDep k payload s) =
      pfbByte k (optByte s.nad).isSome (optByte s.did).isSome (sentPni k s) := rfl

@[simp] theorem encodeDep_ne_nil (k : DepKind) (payload : List Byte) (s : State) : encodeDep k payload s ≠ [] := by
  simp [encodeDep, frameOf]

@[simp] theorem encodeDep_type (k : DepKind) (payload : List Byte) (s : State) :
    (encodeDep k payload s).getD 1 0 = sentType s.role := by
  cases hr : s.role <;> simp [encodeDep, frameOf, depFrameKind, kindBytes, sentType, hr]

theorem optByte_length (b : Byte) : (optByte b).toList.length = if b = 0 then 0 else 1 := by
  unfold optByte; split <;> simp_all

theorem depBody_length (k : DepKind) (p : Pni) (did nad : Byte) (payload : List Byte) :
    (depBody k p (optByte did) (optByte nad) payload).length + 2 = hdrLen did nad + payload.length := by
  simp only [depBody, List.length_cons, List.length_append, optByte_length, hdrLen]
  split <;> split <;> omega

/-- A DEP frame whose payload is no longer than `max_inf` has a right LEN (R87). -/
theorem lengthAgrees_encodeDep (k : DepKind) {payload : List Byte} {s : State} (h : payload.length ≤ maxInf s) :
    lengthAgrees (encodeDep k payload s) = true := by
  have hb := depBody_length k (sentPni k s) s.did s.nad payload
  have hm := maxInf_bounds s
  exact lengthAgrees_frameOf _ (by omega)

/-- The PFB that `sendDep` records, with the registers an S-ATN leaves alone (R160). -/
theorem sendDep_lastPfb (k : DepKind) (p : List Byte) (d : Deadline) (s : State) :
    (sendDep k p d s).lastPfb = some (framePfb (encodeDep k p s)) := rfl

theorem sendDep_lastFrame (k : DepKind) (p : List Byte) (d : Deadline) (s : State) :
    (sendDep k p d s).lastFrame = if k = .atn then s.lastFrame else encodeDep k p s := by
  simp [sendDep]

theorem sendDep_lastDeadline (k : DepKind) (p : List Byte) (d : Deadline) (s : State) :
    (sendDep k p d s).lastDeadline = if k = .atn then s.lastDeadline else d := by
  simp [sendDep]

theorem sendDep_lastPfbExcludingAtn (k : DepKind) (p : List Byte) (d : Deadline) (s : State) :
    (sendDep k p d s).lastPfbExcludingAtn =
      if k = .atn then s.lastPfbExcludingAtn else some (framePfb (encodeDep k p s)) := by
  simp [sendDep]

theorem sendDep_lastRtoxValue (k : DepKind) (p : List Byte) (d : Deadline) (s : State) :
    (sendDep k p d s).lastRtoxValue = if k = .rtox then (encodeDep k p s).getLastD 0 else s.lastRtoxValue := by
  simp [sendDep]

/-- The transmission of a DEP frame, whole (R160). -/
theorem sendDep_eq (k : DepKind) (p : List Byte) (d : Deadline) (s : State) :
    sendDep k p d s =
      { s with
        actions := s.actions ++ [.rfTxRx (encodeDep k p s) d]
        lastPfb := some (framePfb (encodeDep k p s))
        lastPfbExcludingAtn := if k = .atn then s.lastPfbExcludingAtn else some (framePfb (encodeDep k p s))
        lastFrame := if k = .atn then s.lastFrame else encodeDep k p s
        lastDeadline := if k = .atn then s.lastDeadline else d
        lastRtoxValue := if k = .rtox then (encodeDep k p s).getLastD 0 else s.lastRtoxValue } := by
  simp [sendDep, recordTx, emit]

end Sys2Proof.Machine
end

