-- ==== Sys2Proof/Laws/PerInstr.lean ====
section
/-! SUPPORT. Statements made once per instruction. EncodedLength: the encoding of a well-formed instruction is a frame
whose LEN is right (30_encoding.md R81, R100). -/

namespace Sys2Proof.Laws.EncodedLength

/-- A well-formed instruction encodes to a frame whose declared length is its length, within [3, 255]. -/
def Statement (i : Instr) : Prop := i.wf = true → lengthAgrees (encode i) = true

theorem of_wf {i : Instr} (h : i.wf = true) : lengthAgrees (encode i) = true := by
  obtain ⟨k, body, he, hl⟩ := encode_eq_frameOf i
  rw [he]
  exact lengthAgrees_frameOf k (hl ▸ bodyLength_le_of_wf h)

theorem atrReq (nfcid3 : List Byte) (did bs br pp : Byte) (gb : List Byte) :
    Statement (.atrReq nfcid3 did bs br pp gb) := of_wf
theorem atrRes (nfcid3 : List Byte) (did bs br tob pp : Byte) (gb : List Byte) :
    Statement (.atrRes nfcid3 did bs br tob pp gb) := of_wf
theorem pslReq (did : Option Byte) (brs fsl : Byte) : Statement (.pslReq did brs fsl) := of_wf
theorem pslRes (body : List Byte) : Statement (.pslRes body) := of_wf
theorem depReqI (mi : Bool) (pni : Pni) (did nad : Option Byte) (inf : List Byte) :
    Statement (.depReqI mi pni did nad inf) := of_wf
theorem depReqAck (pni : Pni) (did nad : Option Byte) (trail : List Byte) :
    Statement (.depReqAck pni did nad trail) := of_wf
theorem depReqNack (pni : Pni) (did nad : Option Byte) (trail : List Byte) :
    Statement (.depReqNack pni did nad trail) := of_wf
theorem depReqAtn (low : Pni) (did nad : Option Byte) (trail : List Byte) :
    Statement (.depReqAtn low did nad trail) := of_wf
theorem depReqRtox (low : Pni) (did nad : Option Byte) (v : Byte) (trail : List Byte) :
    Statement (.depReqRtox low did nad v trail) := of_wf
theorem depResI (mi : Bool) (pni : Pni) (did nad : Option Byte) (inf : List Byte) :
    Statement (.depResI mi pni did nad inf) := of_wf
theorem depResAck (pni : Pni) (did nad : Option Byte) (trail : List Byte) :
    Statement (.depResAck pni did nad trail) := of_wf
theorem depResNack (pni : Pni) (did nad : Option Byte) (trail : List Byte) :
    Statement (.depResNack pni did nad trail) := of_wf
theorem depResAtn (low : Pni) (did nad : Option Byte) (trail : List Byte) :
    Statement (.depResAtn low did nad trail) := of_wf
theorem depResRtox (low : Pni) (did nad : Option Byte) (v : Byte) (trail : List Byte) :
    Statement (.depResRtox low did nad v trail) := of_wf
theorem dslReq (did : Option Byte) (trail : List Byte) : Statement (.dslReq did trail) := of_wf
theorem dslRes (did : Option Byte) (trail : List Byte) : Statement (.dslRes did trail) := of_wf
theorem rlsReq (did : Option Byte) (trail : List Byte) : Statement (.rlsReq did trail) := of_wf
theorem rlsRes (did : Option Byte) (trail : List Byte) : Statement (.rlsRes did trail) := of_wf

end Sys2Proof.Laws.EncodedLength
end

