-- ==== Sys2Proof/Tests/Slice0.lean ====
section
/-! SUPPORT. Tests and witnesses. Expected results are those of 95_test_vectors.md (V-<letter><n>, P<n>) or worked out by
hand from the tables of 30_encoding.md; a witness shows that the hypotheses of a statement can be met together. -/

namespace Sys2Proof.Tests

open Sys2Proof Sys2Proof.Machine

/-! ### The ground state of 95_test_vectors.md -/

/-- Parameters for tests: the decided defaults of R13, and small values for the three OPEN ones. -/
def params : Config.Params := { deltaFwt := 5, txCap := 300, rxCap := 300 }

/-- `did = 0`, `nad = 0`, `lr = 3`, `wt = 8`, `oper = 0b0111`. -/
def ground : State := { State.reset with params := params, lr := 3, wt := 8, oper := 0b0111 }

/-- An Initiator in a state. -/
def ini (st : St) : State := { ground with st := st, role := .initiator, cfgValid := isSessionSt st }

/-- A Target in a state. -/
def tgt (st : St) : State := { ground with st := st, role := .target, cfgValid := isSessionSt st }

/-- The next state of a result; the ground state where there is none, so a test that reads an error, an action or a
changed register fails on it. -/
def after (r : Result) : State :=
  match r with
  | .next t => t
  | .fault _ => ground
  | .refused _ => ground

/-- The state after a step on one input. -/
def on (input : Input) (s : State) : State := after (step (presenting input false s))

/-- The state after a step that receives a frame. -/
def recv (bytes : List Byte) (s : State) : State := on (.rf (.ok bytes)) s

/-- A result is a next state that satisfies a test. -/
def nextIs (p : State → Bool) (r : Result) : Bool :=
  match r with
  | .next t => p t
  | .fault _ => false
  | .refused _ => false

/-! ### WellFormed refuses ill-formed terms -/

theorem test_wf_refuses_length : (Instr.dslReq (some 3) (List.replicate 252 0)).wf = false := by decide +kernel
theorem test_wf_admits_longest : (Instr.dslReq (some 3) (List.replicate 251 0)).wf = true := by decide +kernel
theorem test_wf_refuses_short_nfcid3 : (Instr.atrReq (List.replicate 9 0) 0 0 0 0 []).wf = false := by decide
theorem test_wf_refuses_long_nfcid3 : (Instr.atrRes (List.replicate 11 0) 0 0 0 8 0 []).wf = false := by decide
theorem test_wf_refuses_long_gb : (Instr.atrReq (List.replicate 10 0) 0 0 0 0 (List.replicate 49 0)).wf = false := by decide
theorem test_wf_refuses_trail_without_did :
    (Instr.dslReq none [0]).wf = false ∧ (Instr.dslRes none [0]).wf = false ∧ (Instr.rlsReq none [0]).wf = false ∧
      (Instr.rlsRes none [0]).wf = false := by decide

/-! ### Decoding: a word of every row, written out from 30_encoding.md -/

theorem test_decode_atrReq :
    decode [0x14, 0xD4, 0x00, 1, 2, 3, 4, 5, 6, 7, 8, 9, 10, 0x00, 0x00, 0x00, 0x32, 0x46, 0x66, 0x6D] =
      .ok (.atrReq [1, 2, 3, 4, 5, 6, 7, 8, 9, 10] 0 0 0 0x32 [0x46, 0x66, 0x6D]) := by decide
theorem test_decode_atrRes :
    decode [0x15, 0xD5, 0x01, 17, 18, 19, 20, 21, 22, 23, 24, 25, 26, 0x00, 0x00, 0x00, 0x08, 0x32, 0x46, 0x66, 0x6D] =
      .ok (.atrRes [17, 18, 19, 20, 21, 22, 23, 24, 25, 26] 0 0 0 8 0x32 [0x46, 0x66, 0x6D]) := by decide
theorem test_decode_pslReq : decode [0x06, 0xD4, 0x04, 0x00, 0x12, 0x03] = .ok (.pslReq (some 0) 0x12 3) := by decide
theorem test_decode_pslRes : 
    decode [0x04, 0xD5, 0x05, 0x00] = .ok (.pslRes [0]) ∧
      decode [0x05, 0xD5, 0x05, 0x00, 0xFF] = .ok (.pslRes [0, 0xFF]) := by decide
theorem test_decode_depReqI :
    decode [0x06, 0xD4, 0x06, 0x15, 0x03, 0xAA] = .ok (.depReqI true 1 (some 3) none [0xAA]) := by decide
theorem test_decode_depReqAck : decode [0x04, 0xD4, 0x06, 0x41] = .ok (.depReqAck 1 none none []) := by decide
theorem test_decode_depReqNack : decode [0x04, 0xD4, 0x06, 0x52] = .ok (.depReqNack 2 none none []) := by decide
theorem test_decode_depReqAtn : decode [0x04, 0xD4, 0x06, 0x80] = .ok (.depReqAtn 0 none none []) := by decide
theorem test_decode_depReqRtox :
    decode [0x06, 0xD4, 0x06, 0x94, 0x03, 0x3B] = .ok (.depReqRtox 0 (some 3) none 59 []) := by decide
theorem test_decode_depResI :
    decode [0x07, 0xD5, 0x07, 0x0E, 0x03, 0x07, 0xAA] = .ok (.depResI false 2 (some 3) (some 7) [0xAA]) := by decide
theorem test_decode_depResAck : decode [0x04, 0xD5, 0x07, 0x40] = .ok (.depResAck 0 none none []) := by decide
theorem test_decode_depResNack : decode [0x04, 0xD5, 0x07, 0x50] = .ok (.depResNack 0 none none []) := by decide
theorem test_decode_depResAtn : decode [0x04, 0xD5, 0x07, 0x80] = .ok (.depResAtn 0 none none []) := by decide
theorem test_decode_depResRtox : decode [0x05, 0xD5, 0x07, 0x90, 0x3B] = .ok (.depResRtox 0 none none 59 []) := by decide
theorem test_decode_dslReq :
    decode [0x04, 0xD4, 0x08, 0x03] = .ok (.dslReq (some 3) []) ∧ decode [0x03, 0xD4, 0x08] = .ok (.dslReq none []) := by
  decide
theorem test_decode_dslRes : decode [0x04, 0xD5, 0x09, 0x03] = .ok (.dslRes (some 3) []) := by decide
theorem test_decode_rlsReq : decode [0x03, 0xD4, 0x0A] = .ok (.rlsReq none []) := by decide
theorem test_decode_rlsRes : decode [0x03, 0xD5, 0x0B] = .ok (.rlsRes none []) := by decide

/-- V-C16 to V-C21, V-C26, V-C29: rejected, each by its name. -/
theorem test_decode_rejects :
    decode [0x05, 0xD4, 0x06, 0x00] = .error .malformed ∧ decode [0x02, 0xD4] = .error .malformed ∧
      decode [0x04, 0xD5, 0x03, 0x00] = .error .unknownCommand ∧ decode [0x03, 0xD5, 0x07] = .error .noPfb ∧
      decode [0x04, 0xD5, 0x07, 0xE0] = .error .reservedPfb ∧ decode [0x04, 0xD5, 0x07, 0x04] = .error .headerTooShort ∧
      decode [0x04, 0xD5, 0x07, 0x90] = .error .noRtoxValue ∧
      decode [0x04, 0xD4, 0x04, 0x00] = .error .pslLength ∧
      decode (0x10 :: 0xD4 :: 0x00 :: List.replicate 13 0) = .error .atrTooShort := by decide

/-- V-C30, V-C31: 48 General Bytes are legal, 49 are not. -/
theorem test_decode_general_bytes_limit :
    (decode (0x42 :: 0xD4 :: 0x00 :: List.replicate 63 0) = .error .tooManyGeneralBytes) ∧
      decode (0x41 :: 0xD4 :: 0x00 :: List.replicate 62 0) =
        .ok (.atrReq (List.replicate 10 0) 0 0 0 0 (List.replicate 48 0)) := by decide

/-- A 24-bit and a 16-bit word of opcode_table.json: DEP_REQ.I and DSL_RES. -/
theorem test_table_words :
    decodeTableWord 24 0xD40600 = some (.depReqI false 0 none none []) ∧
      decodeTableWord 16 0xD509 = some (.dslRes none []) := by decide

/-! ### Encoding with a session: V-C1, V-C2, V-C4, V-C12 -/

theorem test_encode_atr :
    encodeAtrReq { ini .iSendAtr with nfcid3Local := [1, 2, 3, 4, 5, 6, 7, 8, 9, 10], gbLocal := [0x46, 0x66, 0x6D] } =
        [0x14, 0xD4, 0x00, 1, 2, 3, 4, 5, 6, 7, 8, 9, 10, 0x00, 0x00, 0x00, 0x32, 0x46, 0x66, 0x6D] ∧
      encodeAtrRes { tgt .tSendAtrRes with
        nfcid3Local := [17, 18, 19, 20, 21, 22, 23, 24, 25, 26], gbLocal := [0x46, 0x66, 0x6D] } =
        [0x15, 0xD5, 0x01, 17, 18, 19, 20, 21, 22, 23, 24, 25, 26, 0x00, 0x00, 0x00, 0x08, 0x32, 0x46, 0x66, 0x6D] := by
  decide
theorem test_encode_psl :
    encodePslReq { ini .iSendPsl with desiredBr := 2 } = [0x06, 0xD4, 0x04, 0x00, 0x12, 0x03] := by decide
theorem test_encode_rtox : encodeDep .rtox [59] (tgt .tDepRx) = [0x05, 0xD5, 0x07, 0x90, 0x3B] := by decide

/-! ### Quantities: V-S10, V-S11, V-S21 to V-S23 -/

theorem test_max_inf :
    maxInf { ground with lr := 0, did := 3, nad := 7 } = 59 ∧ maxInf { ground with lr := 0 } = 61 ∧
      maxInf { ground with lr := 1 } = 125 ∧ maxInf { ground with lr := 2 } = 189 ∧ maxInf ground = 251 := by decide
theorem test_rtox_req_value :
    rtoxReqValue { ground with wt := 14 } = 1 ∧ rtoxReqValue { ground with wt := 13 } = 2 ∧
      rtoxReqValue { ground with wt := 10 } = 16 ∧ rtoxReqValue { ground with wt := 9 } = 32 ∧
      rtoxReqValue ground = 59 ∧ rtoxReqValue { ground with wt := 0 } = 59 := by decide
theorem test_deadlines :
    rtoxDeadline 59 ground = .within (61865984 + 5) ∧ rtoxDeadline 59 { ground with wt := 14 } = .within (67108864 + 5) ∧
      rtoxDelay 8 = 917504 := by decide
theorem test_codes :
    stCode .idle = 0 ∧ stCode .tSleep = 19 ∧ statusCode (.err (.transmission .framing)) = 19 ∧
      statusCode (.err .bufferOverflow) = 25 ∧ statusCode .released = 5 := by decide

/-! ### Activation frames -/

/-- V-A14. -/
theorem test_atrReq_loads_peer :
    let t := recv [0x14, 0xD4, 0x00, 1, 2, 3, 4, 5, 6, 7, 8, 9, 10, 0x00, 0x00, 0x00, 0x32, 0x46, 0x66, 0x6D]
      { tgt .tWaitAtr with pni := 2 }
    t.st = .tSendAtrRes ∧ t.nfcid3Peer = [1, 2, 3, 4, 5, 6, 7, 8, 9, 10] ∧ t.gbPeer = [0x46, 0x66, 0x6D] ∧
      t.peerLr = 3 ∧ t.pni = 0 := by decide
/-- R204: `DIDi > DID_MAX`. -/
theorem test_atrReq_refuses_did :
    let t := after (exec (.atrReq (List.replicate 10 0) 15 0 0 0 []) (tgt .tWaitAtr))
    t.status = .err .protocolError ∧ t.st = .idle ∧ t.actions = [.timerStop] := by decide
/-- V-A6, V-A10, V-A11. -/
theorem test_atrRes_activates :
    let t := after (exec (.atrRes (List.replicate 10 7) 0 0 0 0x0F 0x12 []) (ini .iAwaitAtrRes))
    t.st = .iActive ∧ t.cfgValid = true ∧ t.status = .done ∧ t.lr = 1 ∧ t.wt = 14 := by decide
/-- V-A8, V-C32. -/
theorem test_atrRes_negotiates_or_refuses :
    (after (exec (.atrRes (List.replicate 10 7) 0 1 1 8 0x32 []) { ini .iAwaitAtrRes with desiredBr := 3 })).st =
        .iSendPsl ∧
      (after (exec (.atrRes (List.replicate 10 7) 2 0 0 8 0x32 []) (ini .iAwaitAtrRes))).status =
        .err .protocolError := by decide
/-- V-A17. -/
theorem test_pslReq_updates :
    let t := recv [0x06, 0xD4, 0x04, 0x00, 0x12, 0x03] (tgt .tWaitActCompletion)
    t.actions = [.rfTxRx [0x04, 0xD5, 0x05, 0x00] .noDeadline, .setBitRate 2 2, .updateDeviceRecord 254 2 2] ∧
      t.bitrateSend = 2 ∧ t.bitrateRecv = 2 ∧ t.st = .tDepRx ∧ t.status = .done := by decide
/-- R206, R207: BRS 0x0A is DSI 1, DRI 2; a wrong DID is ignored, and so is V-C33, which lacks the DID byte. -/
theorem test_pslReq_directions :
    (let t := after (exec (.pslReq (some 0) 0x0A 1) (tgt .tWaitActCompletion))
     t.bitrateRecv = 1 ∧ t.bitrateSend = 2 ∧ t.lr = 1) ∧
      (after (exec (.pslReq (some 4) 0x0A 1) (tgt .tWaitActCompletion))).actions = [.rfRx .noDeadline] ∧
      (recv [0x05, 0xD4, 0x04, 0x00, 0x12] (tgt .tWaitActCompletion)).actions = [.rfRx .noDeadline] := by decide
/-- P2 step 9; a byte after the DID is ignored (D30), another DID is an error (R131). -/
theorem test_pslRes_updates :
    (let t := recv [0x04, 0xD5, 0x05, 0x00] { ini .iAwaitPslRes with desiredBr := 2 }
     t.actions = [.setBitRate 2 2, .updateDeviceRecord 254 2 2] ∧ t.bitrateSend = 2 ∧ t.st = .iActive ∧
       t.cfgValid = true) ∧
      (recv [0x05, 0xD5, 0x05, 0x00, 0xFF] (ini .iAwaitPslRes)).status = .done ∧
      (recv [0x04, 0xD5, 0x05, 0x01] (ini .iAwaitPslRes)).status = .err .protocolError := by decide
/-- V-I14. -/
theorem test_pslRes_is_unexpected_later :
    (recv [0x04, 0xD5, 0x05, 0x00] (ini .iDepRx)).status = .err .protocolError := by decide

/-! ### DEP_RES frames -/

/-- V-I5. -/
theorem test_depResI_chained :
    let t := recv [0x06, 0xD5, 0x07, 0x11, 0xAA, 0xBB] { ini .iDepRx with pni := 1 }
    t.rxAcc.readBytes 0 2 = some [0xAA, 0xBB] ∧ t.pni = 2 ∧ t.status = .chainingContinue ∧
      t.actions = [.rfTxRx [0x04, 0xD4, 0x06, 0x42] (.within (2 ^ 20 + 5))] := by decide
/-- V-I6, V-I7. -/
theorem test_depResI_final :
    (let t := recv [0x05, 0xD5, 0x07, 0x02, 0xCC] { ini .iDepRx with pni := 2, rxAcc := [(0, 0xAA), (1, 0xBB)], rxLen := 2 }
     t.rxAcc.readBytes 0 3 = some [0xAA, 0xBB, 0xCC] ∧ t.pni = 3 ∧ t.st = .iActive ∧ t.status = .done) ∧
      (recv [0x05, 0xD5, 0x07, 0x01, 0xCC] { ini .iDepRx with pni := 2 }).status = .err .protocolError := by decide
/-- V-I1, V-I2. -/
theorem test_depResAck_advances :
    (recv [0x04, 0xD5, 0x07, 0x40] { ini .iDepRx with txChaining := true }).st = .iDepTx ∧
      (recv [0x04, 0xD5, 0x07, 0x43] { ini .iDepRx with pni := 3 }).pni = 0 := by decide
/-- V-I3. -/
theorem test_depResAck_previous_retransmits :
    let t := recv [0x04, 0xD5, 0x07, 0x41] { ini .iDepRx with pni := 2, lastFrame := [1, 2], lastDeadline := .within 9 }
    t.txRetries = 1 ∧ t.pni = 2 ∧ t.actions = [.rfTxRx [1, 2] (.within 9)] := by decide
/-- V-I13. -/
theorem test_depResNack_is_an_error :
    let t := recv [0x04, 0xD5, 0x07, 0x50] (ini .iDepRx)
    t.status = .err .protocolError ∧ t.st = .iActive := by decide
/-- V-I8, V-I8b. -/
theorem test_depResAtn :
    (let t := recv [0x04, 0xD5, 0x07, 0x80] { ini .iDepRx with
        lastPfb := some 0x80, lastPfbExcludingAtn := some 0, lastFrame := [1, 2] }
     t.txRetries = 1 ∧ t.lastPfb = some 0) ∧
      (recv [0x04, 0xD5, 0x07, 0x80] { ini .iDepRx with lastPfb := some 0, lastFrame := [1, 2] }).status =
        .err .protocolError := by decide
/-- V-I9. -/
theorem test_depResRtox_grants :
    let t := recv [0x05, 0xD5, 0x07, 0x90, 0x05] { ini .iDepRx with lastPfb := some 0 }
    t.rtoxRetries = 1 ∧ t.st = .iDepRx ∧
      t.actions = [.rfTxRx [0x05, 0xD4, 0x06, 0x90, 0x05] (.within (5 * 2 ^ 20 + 5))] := by decide
/-- V-I10, V-I11, V-I12. -/
theorem test_depResRtox_refuses :
    (recv [0x05, 0xD5, 0x07, 0x90, 0x00] (ini .iDepRx)).status = .err .protocolError ∧
      (recv [0x05, 0xD5, 0x07, 0x90, 0x3C] (ini .iDepRx)).status = .err .protocolError ∧
      (recv [0x05, 0xD5, 0x07, 0x90, 0x05] { ini .iDepRx with lastPfb := some 0x80 }).status = .err .protocolError ∧
      (recv [0x05, 0xD5, 0x07, 0x90, 0x05] { ini .iDepRx with rtoxRetries := 10 }).status = .err .protocolError := by decide

/-! ### DEP_REQ frames -/

/-- V-T1. -/
theorem test_depReqI_chained :
    let t := recv [0x06, 0xD4, 0x06, 0x10, 0xAA, 0xBB] (tgt .tDepRx)
    t.actions = [.rfTxRx [0x04, 0xD5, 0x07, 0x40] .noDeadline] ∧ t.pni = 1 ∧ t.rxChaining = true ∧
      t.status = .chainingContinue := by decide
/-- V-T3, V-T5. -/
theorem test_depReqI_final_and_repeated :
    (let t := recv [0x05, 0xD4, 0x06, 0x01, 0xDD] { tgt .tDepRx with pni := 1, rxLen := 3 }
     t.rxLen = 1 ∧ t.rxAcc.read 0 = some 0xDD ∧ t.actions = [.timerStart 917504] ∧ t.st = .tRespPending) ∧
      (let t := recv [0x05, 0xD4, 0x06, 0x00, 0xA1] { tgt .tDepRx with
         pni := 1, lastPfb := some 0x80, lastPfbExcludingAtn := some 0, lastFrame := [0x05, 0xD5, 0x07, 0x00, 0xB2] }
       t.actions = [.rfTxRx [0x05, 0xD5, 0x07, 0x00, 0xB2] .noDeadline] ∧ t.lastPfb = some 0 ∧ t.pni = 1) := by decide
/-- V-T6, V-T7. -/
theorem test_depReqAck :
    (recv [0x04, 0xD4, 0x06, 0x41] { tgt .tDepRx with pni := 1, txChaining := true }).st = .tDepTx ∧
      (recv [0x04, 0xD4, 0x06, 0x42] { tgt .tDepRx with pni := 1, txChaining := true }).actions =
        [.rfRx .noDeadline] := by decide
/-- V-T8, V-T9. -/
theorem test_depReqNack :
    (recv [0x04, 0xD4, 0x06, 0x50] { tgt .tDepRx with lastFrame := [1, 2] }).actions = [.rfTxRx [1, 2] .noDeadline] ∧
      (recv [0x04, 0xD4, 0x06, 0x50] (tgt .tDepRx)).actions = [.rfRx .noDeadline] := by decide
/-- V-T10, V-T11. -/
theorem test_depReqAtn :
    (let t := recv [0x04, 0xD4, 0x06, 0x80] { tgt .tDepRx with lastFrame := [1, 2] }
     t.actions = [.rfTxRx [0x04, 0xD5, 0x07, 0x80] .noDeadline] ∧ t.lastPfb = some 0x80 ∧ t.lastFrame = [1, 2]) ∧
      (recv [0x04, 0xD4, 0x06, 0x80] { tgt .tDepRx with oper := 0b0101 }).actions = [.rfRx .noDeadline] := by decide
/-- V-T17, V-T19. -/
theorem test_depReqRtox_granted :
    (let t := recv [0x05, 0xD4, 0x06, 0x90, 0x3B] { tgt .tAwaitRtoxRes with lastRtoxValue := 59 }
     t.actions = [.timerStart 917504] ∧ t.st = .tRespPending ∧ t.status = .idle) ∧
      (recv [0x05, 0xD4, 0x06, 0x90, 0x3B] { tgt .tAwaitRtoxRes with lastRtoxValue := 59, txPending := true }).st =
        .tDepTx := by decide
/-- V-T18, and R271. -/
theorem test_depReqRtox_ignored :
    (recv [0x05, 0xD4, 0x06, 0x90, 0x05] { tgt .tAwaitRtoxRes with lastRtoxValue := 59 }).actions = [.rfRx .noDeadline] ∧
      (recv [0x05, 0xD4, 0x06, 0x90, 0x3B] (tgt .tDepRx)).actions = [.rfRx .noDeadline] := by decide

/-! ### Deactivation frames -/

/-- V-D3, V-D4. -/
theorem test_dslReq :
    (recv [0x04, 0xD4, 0x08, 0x05] { tgt .tDepRx with did := 3 }).actions = [.rfRx .noDeadline] ∧
      (let t := recv [0x04, 0xD4, 0x08, 0x03] { tgt .tDepRx with did := 3 }
       t.actions = [.rfTxRx [0x04, 0xD5, 0x09, 0x03] .noDeadline, .timerStop] ∧ t.cfgValid = false ∧ t.st = .tSleep ∧
         t.status = .deselected) := by decide
/-- V-D2, V-D9. -/
theorem test_dslRes :
    (let t := recv [0x04, 0xD5, 0x09, 0x03] { ini .iAwaitDslRes with did := 3 }
     t.cfgValid = false ∧ t.st = .idle ∧ t.status = .done) ∧
      (recv [0x04, 0xD5, 0x09, 0x05] { ini .iAwaitDslRes with did := 3 }).st = .iActive := by decide
/-- V-D5, V-D6. -/
theorem test_rlsReq :
    (let t := recv [0x03, 0xD4, 0x0A] (tgt .tDepRx)
     t.actions = [.rfTxRx [0x03, 0xD5, 0x0B] .noDeadline, .timerStop] ∧ t.st = .idle ∧ t.status = .released) ∧
      (recv [0x04, 0xD4, 0x0A, 0x00] (tgt .tDepRx)).actions = [.rfRx .noDeadline] := by decide
/-- R304, R307. -/
theorem test_rlsRes :
    (recv [0x03, 0xD5, 0x0B] (ini .iAwaitRlsRes)).st = .idle ∧
      (recv [0x04, 0xD5, 0x0B, 0x01] (ini .iAwaitRlsRes)).status = .err .protocolError := by decide

/-! ### Inputs that are no instruction -/

/-- V-R1, V-R4, V-R6, V-R8. -/
theorem test_recovery :
    (let t := on (.rf (.err .timeout 0)) { ini .iDepRx with lastPfb := some 0 }
     t.timeoutRetries = 1 ∧ t.atnRetries = 1 ∧ t.lastPfb = some 0x80) ∧
      (on (.rf (.err .timeout 0)) { ini .iDepRx with oper := 0b0101 }).status = .err .timeout ∧
      (on (.rf (.err (.transmission .parity) 9)) { ini .iDepRx with nackRetries := 3 }).status =
        .err (.transmission .framing) ∧
      (recv [0x05, 0xD5, 0x07, 0x00] { ini .iDepRx with pni := 2 }).actions =
        [.rfTxRx [0x04, 0xD4, 0x06, 0x52] (.within (2 ^ 20 + 5))] := by decide
/-- V-A3, V-A4, V-A9. -/
theorem test_activation_errors :
    (on (.rf (.err (.transmission .crc) 5)) { ini .iAwaitAtrRes with atrRetries := 2 }).status =
        .err (.transmission .crc) ∧
      (on (.rf (.err (.transmission .crc) 5)) { ini .iAwaitAtrRes with atrRetries := 1 }).st = .iSendAtr ∧
      (on (.rf (.err .timeout 0)) (ini .iAwaitAtrRes)).st = .idle ∧
      (on (.rf (.err (.transmission .crc) 4)) (ini .iAwaitPslRes)).st = .idle := by decide
/-- V-T14, V-T15, V-T20, V-T21. -/
theorem test_target_response :
    (let t := on .timerExpired (tgt .tRespPending)
     t.actions = [.rfTxRx [0x05, 0xD5, 0x07, 0x90, 0x3B] .noDeadline] ∧ t.lastRtoxValue = 59 ∧ t.st = .tAwaitRtoxRes) ∧
      (on .timerExpired { tgt .tRespPending with oper := 0b0011 }).status = .err .timeout ∧
      (on (.cmd (.exchange [0xDD, 0xEE])) (tgt .tRespPending)).txLen = 2 ∧
      (on .poll { tgt .tDepTx with pni := 2, txBuf := [(0, 0xDD), (1, 0xEE)], txLen := 2 }).actions =
        [.rfTxRx [0x06, 0xD5, 0x07, 0x02, 0xDD, 0xEE] .noDeadline] := by decide
/-- V-I18, V-I19, V-D1, V-D10, V-T22; a second EXCHANGE before the first has ended (R373). -/
theorem test_commands :
    (on (.cmd (.exchange [])) { ini .iActive with oper := 0b0110 }).status = .err .badParam ∧
      (on (.cmd (.exchange [1])) (ini .iDepRx)).status = .err .wrongState ∧
      (on .poll (on (.cmd .deselect) { ini .iActive with did := 3 })).actions =
        [.rfTxRx [0x04, 0xD4, 0x08, 0x03] (.within (2 ^ 20 + 5))] ∧
      (on (.cmd .deselect) (ini .iDepRx)).status = .err .wrongState ∧
      (let t := on (.cmd (.exchange [1])) (tgt .tAwaitRtoxRes)
       t.status = .inProgress ∧ t.txPending = true ∧ (on (.cmd (.exchange [2, 3])) t).status = .err .wrongState ∧
         (on (.cmd (.exchange [2, 3])) t).txBuf.read 0 = some 1) ∧
      (on (.cmd (.exchange [1])) (tgt .tDepRx)).status = .err .wrongState := by decide
/-- V-A18, V-A19. -/
theorem test_first_request_is_queued :
    let t := recv [0x05, 0xD4, 0x06, 0x00, 0xA1] (tgt .tWaitActCompletion)
    t.pendingReq = [0x05, 0xD4, 0x06, 0x00, 0xA1] ∧ t.actions = [] ∧ t.status = .done ∧
      (on .poll t).rxAcc.read 0 = some 0xA1 ∧ (on .poll t).pendingReq = [] := by decide

/-! ### Witnesses: states and operands that meet the hypotheses of a statement -/

/-- A sample of a DEP frame of the greatest length: 255 bytes. -/
def longest : Instr := .depReqI true 3 (some 14) (some 255) (List.replicate 249 0)

/-- An Initiator that waits for a response, in the middle of an exchange, about to receive a transmission error: a state
that has the invariant. -/
def live : State :=
  { ini .iDepRx with
    inputs := [{ input := .rf (.err (.transmission .crc) 3) }]
    did := 14
    txBuf := Memory.writeBytes [] 0 [1, 2, 3]
    txLen := 3
    txOff := 3
    rxAcc := Memory.writeBytes [] 0 [4, 5]
    rxLen := 2
    lastPfb := some 0x80
    lastPfbExcludingAtn := some 0x04
    lastFrame := [0x08, 0xD4, 0x06, 0x04, 0x0E, 1, 2, 3]
    lastDeadline := .within 7
    txRetries := 3
    rtoxRetries := 10 }

theorem emptyBuffer (cap : Nat) : BufferOk [] 0 cap :=
  ⟨rfl, Nat.zero_le _, by simp, fun a h => absurd h (Nat.not_lt_zero a)⟩

theorem live_inv : Inv live where
  role := ⟨fun _ => rfl, by decide⟩
  session := rfl
  registers := by constructor <;> decide
  counters := fun c => by cases c <;> decide
  buffers :=
    { tx := (emptyBuffer 300).writeBytes [1, 2, 3] (Nat.le_refl 0) (by decide)
      off_le := Nat.le_refl 3
      rx := (emptyBuffer 300).writeBytes [4, 5] (Nat.le_refl 0) (by decide) }

theorem witness_DecodeOfEncodeIsTheInstruction : longest.wf = true := by decide +kernel
theorem witness_EncodeOfDecodeIsTheFrame : decode (encode longest) = .ok longest := by decide +kernel
theorem witness_MalformedFramesAreTransmissionErrors :
    decode [0x02, 0xD4] = .error .malformed ∧ decode [0x05, 0xD5, 0x07, 0x00] = .error .malformed ∧
      decode (0x00 :: List.replicate 255 0) = .error .malformed := by decide +kernel
theorem witness_EncodingsMatchTheOpcodeMap : longest.wf = true := by decide +kernel
theorem witness_BuiltDepFramesDecodeToTheirPdu :
    (live.role = .initiator ∧ (List.replicate 250 (0 : Byte)).length ≤ maxInf live) ∧
      (tgt .tDepRx).role = .target ∧ (List.replicate 251 (0 : Byte)).length ≤ maxInf (tgt .tDepRx) := by decide +kernel
theorem witness_PniCountsVerifiedBlocksModuloFour :
    nextIs (fun t => t.status = .done) (exec (.depResI false 3 none none [9]) { ini .iDepRx with pni := 3 }) = true ∧
      nextIs (fun t => t.status = .chainingContinue) (exec (.depReqI true 3 none none [9]) { tgt .tDepRx with pni := 3 }) =
        true ∧
      nextIs (fun _ => true) (tick { tgt .tDepTx with pni := 3 }) = true := by decide
theorem witness_CountersClearAtBlockAndExchange :
    nextIs (fun t => t.st = .iDepTx)
        (exec (.depResAck 0 none none []) { ini .iDepRx with txChaining := true, txRetries := 3 }) = true ∧
      nextIs (fun t => t.st = .tDepTx)
        (exec (.depReqAck 1 none none []) { tgt .tDepRx with pni := 1, txChaining := true, rtoxRetries := 10 }) = true ∧
      nextIs (fun t => t.status = .inProgress) (cmdExchange [1] (ini .iActive)) = true ∧
      nextIs (fun t => t.status = .inProgress) (cmdExchange [1] (tgt .tRespPending)) = true := by decide
theorem witness_RtoxValuesStayInRange :
    live.st = .iDepRx ∧ ¬ (1 ≤ (0 : Byte).toNat ∧ (0 : Byte).toNat ≤ 59) ∧
      ¬ (1 ≤ (60 : Byte).toNat ∧ (60 : Byte).toNat ≤ 59) := by decide
theorem witness_ChainingReconstructsThePayload : State.reset.rxLen = 0 := rfl
theorem witness_FramesStoreOnlyTheirBlock :
    nextIs (fun t => t.rxAcc.read 2 = some 9) (exec (.depResI false 0 (some 14) none [9]) live) = true ∧
      storedBlock (.depResI false 0 (some 14) none [9]) live = (2, 1) := by decide
theorem witness_StepRunsTheReceivedInstruction :
    decode [0x04, 0xD5, 0x07, 0x40] = .ok (.depResAck 0 none none []) := by decide
theorem witness_QueuedRequestRunsAsIfReceived :
    let s := { tgt .tDepRx with pendingReq := [0x05, 0xD4, 0x06, 0x00, 0xA1] }
    s.st = .tDepRx ∧ s.pendingReq ≠ [] := by decide

/-- An Initiator's configuration with every operand at its limit. -/
def iniCfg : HostConfig :=
  { role := .initiator, commMode := .active, did := 14, nad := 0, lr := 3, bitrateSend := 7, bitrateRecv := 7,
    generalBytes := List.replicate 48 1, operationFlags := 15 }

/-- A Target's configuration with every operand at its limit. -/
def tgtCfg : HostConfig := { iniCfg with role := .target, did := 255, nad := 255 }

theorem witness_InitActivateLoadsOrRefuses :
    nextIs (fun t => t.st = .iSendAtr)
        (step (presenting (.cmd (.initActivate iniCfg ⟨List.replicate 10 1, 255, []⟩ 7)) false ground)) = true ∧
      nextIs (fun t => t.status = .err .badParam)
        (step (presenting (.cmd (.initActivate { iniCfg with did := 15 } ⟨[], 0, []⟩ 0)) false ground)) = true := by
  decide +kernel
theorem witness_TargListenLoadsOrRefuses :
    nextIs (fun t => t.st = .tWaitAtr)
        (step (presenting (.cmd (.targListen tgtCfg ⟨15, List.replicate 10 1, 255⟩)) false ground)) = true ∧
      nextIs (fun t => t.status = .err .badParam)
        (step (presenting (.cmd (.targListen tgtCfg ⟨16, [], 0⟩)) false ground)) = true := by decide +kernel
theorem witness_AtrReqLoadsThePeer :
    (tgt .tWaitAtr).st = .tWaitAtr ∧ (14 : Byte).toNat ≤ (tgt .tWaitAtr).params.didMax := by decide
theorem witness_AtrResCompletesOrNegotiates :
    let s := { ini .iAwaitAtrRes with desiredBr := 6 }
    s.st = .iAwaitAtrRes ∧
      nextIs (fun t => t.st = .iSendPsl) (exec (.atrRes (List.replicate 10 0) s.did 8 8 8 0 []) s) = true ∧
      nextIs (fun t => t.st = .iActive) (exec (.atrRes (List.replicate 10 0) s.did 8 7 8 0 []) s) = true ∧
      nextIs (fun t => t.st = .iActive)
        (exec (.atrRes (List.replicate 10 0) s.did 15 15 8 0 []) { s with desiredBr := 7 }) = true := by decide
theorem witness_InvalidAtrResIsFatal :
    (ini .iAwaitAtrRes).st = .iAwaitAtrRes ∧ lengthAgrees [0x04, 0xD5, 0x05, 0x00] = true ∧
      ∀ nfcid3 bs br tob pp gb,
        decode [0x04, 0xD5, 0x05, 0x00] ≠ .ok (.atrRes nfcid3 (ini .iAwaitAtrRes).did bs br tob pp gb) :=
  ⟨rfl, by decide, fun _ _ _ _ _ _ => by
    rw [show decode [0x04, 0xD5, 0x05, 0x00] = .ok (.pslRes [0]) by decide]; simp⟩
theorem witness_InvalidAtrReqIsFatal :
    (tgt .tWaitAtr).st = .tWaitAtr ∧ lengthAgrees [0x04, 0xD4, 0x06, 0x00] = true ∧
      ∀ nfcid3 did bs br pp gb, did.toNat ≤ (tgt .tWaitAtr).params.didMax →
        decode [0x04, 0xD4, 0x06, 0x00] ≠ .ok (.atrReq nfcid3 did bs br pp gb) :=
  ⟨rfl, by decide, fun _ _ _ _ _ _ _ => by
    rw [show decode [0x04, 0xD4, 0x06, 0x00] = .ok (.depReqI false 0 none none []) by decide]; simp⟩
theorem witness_PslReqUpdatesTheTarget : (tgt .tWaitActCompletion).st = .tWaitActCompletion := rfl
theorem witness_PslResCompletesActivationOrIsFatal :
    (ini .iAwaitPslRes).st = .iAwaitPslRes ∧ (ini .iAwaitPslRes).params.pslDidAlways = true ∧
      lengthAgrees [0x04, 0xD5, 0x05, 0x01] = true ∧
      ∀ trail, decode [0x04, 0xD5, 0x05, 0x01] ≠ .ok (.pslRes ((some (ini .iAwaitPslRes).did).toList ++ trail)) :=
  ⟨rfl, rfl, by decide, fun trail => by
    rw [show decode [0x04, 0xD5, 0x05, 0x01] = .ok (.pslRes [1]) by decide]; simp [ini, ground, State.reset]⟩
theorem witness_FirstDepReqIsQueued :
    (tgt .tWaitActCompletion).st = .tWaitActCompletion ∧ lengthAgrees [0x04, 0xD4, 0x06, 0xE0] = true ∧
      frameKind [0x04, 0xD4, 0x06, 0xE0] = some .depReq ∧ decode [0x04, 0xD4, 0x06, 0xE0] = .error .reservedPfb ∧
      lengthAgrees [0x04, 0xD4, 0x06, 0x00] = true ∧ frameKind [0x04, 0xD4, 0x06, 0x00] = some .depReq := by decide
theorem witness_InitiatorSendsTheNextBlock :
    let s := { live with st := .iDepTx, txOff := 0 }
    s.st = .iDepTx ∧ s.role = .initiator ∧
      s.txBuf.readBytes s.txOff (min (maxInf s) (s.txLen - s.txOff)) = some [1, 2, 3] := by decide
theorem witness_MatchingAckAdvances : live.st = .iDepRx := rfl
theorem witness_RetransmissionIsBounded :
    live.st = .iDepRx ∧ live.lastFrame ≠ [] ∧ lastWasAtn live = true ∧
      { live with txRetries := 2 }.txRetries < live.params.txRetryMax ∧ ¬ live.txRetries < live.params.txRetryMax := by
  decide
theorem witness_OtherReceiptsAreProtocolErrors : live.st = .iDepRx ∧ live.pni = 0 := by decide
theorem witness_ChainedResponseIsAcknowledged :
    let s := { live with rxLen := 299 }
    s.st = .iDepRx ∧ s.role = .initiator ∧ s.oper.getLsbD 0 = true ∧ s.rxLen + [(9 : Byte)].length ≤ s.params.rxCap := by
  decide
theorem witness_FinalResponseCompletesTheExchange :
    let s := { live with rxLen := 299 }
    s.st = .iDepRx ∧ s.oper.getLsbD 0 = true ∧ s.rxLen + [(9 : Byte)].length ≤ s.params.rxCap := by decide
theorem witness_ResponseBlockChecksPrecedeWrites :
    live.st = .iDepRx ∧ (1 : Pni) ≠ live.pni ∧ { live with oper := 0b0110 }.oper.getLsbD 0 = false ∧
      live.params.rxCap < { live with rxLen := 300 }.rxLen + [(9 : Byte)].length := by decide
theorem witness_RtoxIsGrantedByEcho :
    live.st = .iDepRx ∧ live.role = .initiator ∧
      (let s := { live with lastPfb := some 0x04, rtoxRetries := 9 }
       lastWasAtn s = false ∧ s.rtoxRetries < 10) ∧ ¬ live.rtoxRetries < 10 := by decide
theorem witness_OtherFramesAbortTheCycle :
    live.st = .iDepRx ∧ lengthAgrees [0x04, 0xD5, 0x07, 0xE0] = true ∧
      decode [0x04, 0xD5, 0x07, 0xE0] = .error .reservedPfb ∧ lengthAgrees [0x04, 0xD5, 0x07, 0x40] = true ∧
      decode [0x04, 0xD5, 0x07, 0x40] = .ok (.depResAck 0 none none []) ∧ none ≠ optByte live.did := by decide
theorem witness_TimeoutSendsAttention : live.st = .iDepRx ∧ live.role = .initiator ∧ lastWasNack live = false := by
  decide
theorem witness_TimeoutAfterNackResendsIt :
    let s := { live with lastPfb := some 0x52, timeoutRetries := 2, nackRetries := 3 }
    s.st = .iDepRx ∧ s.role = .initiator ∧ lastWasNack s = true ∧
      (on (.rf (.err .timeout 0)) s).status = .err (.transmission .framing) ∧
      (on (.rf (.err .timeout 0)) { s with timeoutRetries := 3 }).status = .err .protocolError ∧
      (on (.rf (.err .timeout 0)) { s with nackRetries := 2 }).nackRetries = 3 := by decide
theorem witness_TransmissionErrorIsAnsweredByNack : live.st = .iDepRx ∧ live.role = .initiator := by decide
theorem witness_RequestBlockIsAccepted :
    (tgt .tDepRx).st = .tDepRx ∧ (tgt .tDepRx).role = .target ∧ (tgt .tDepRx).txChaining = false := by decide
theorem witness_RequestAckContinuesOrRepeats :
    (tgt .tDepRx).st = .tDepRx ∧ (tgt .tAwaitRtoxRes).st = .tAwaitRtoxRes := by decide
theorem witness_RepeatedRequestIsAnsweredAgain :
    (tgt .tDepRx).st = .tDepRx ∧ { tgt .tDepRx with txChaining := true }.txChaining = true ∧
      (3 : Pni) ≠ (tgt .tDepRx).pni ∧ (tgt .tAwaitRtoxRes).st = .tAwaitRtoxRes := by decide
theorem witness_NackRepeatsTheLastFrame :
    (tgt .tDepRx).st = .tDepRx ∧ (tgt .tAwaitRtoxRes).st = .tAwaitRtoxRes := by decide
theorem witness_AttentionIsAnswered :
    ((tgt .tDepRx).st = .tDepRx ∧ (tgt .tDepRx).role = .target) ∧
      (tgt .tAwaitRtoxRes).st = .tAwaitRtoxRes ∧ (tgt .tAwaitRtoxRes).role = .target := by decide
theorem witness_RtoxGrantIsTaken :
    (tgt .tAwaitRtoxRes).st = .tAwaitRtoxRes ∧ (tgt .tDepRx).st = .tDepRx := by decide
theorem witness_TargetIgnoresWhatItCannotUse :
    ((tgt .tWaitAtr).st = .tWaitAtr ∧ decode [0x05, 0xD4, 0x06, 0x00] = .error .malformed) ∧
      ((tgt .tWaitActCompletion).st = .tWaitActCompletion ∧
        decode [0x05, 0xD4, 0x04, 0x00, 0x12] = .ok (.pslReq none 0x00 0x12) ∧
        none ≠ some (tgt .tWaitActCompletion).did ∧ decode [0x04, 0xD4, 0x04, 0x00] = .error .pslLength ∧
        frameKind [0x04, 0xD4, 0x04, 0x00] ≠ some .depReq) ∧
      (tgt .tDepRx).st = .tDepRx ∧ (tgt .tAwaitRtoxRes).st = .tAwaitRtoxRes ∧
      decode [0x04, 0xD4, 0x06, 0xE0] = .error .reservedPfb ∧ some 3 ≠ optByte (tgt .tDepRx).did := by decide
theorem witness_TargetRequestsMoreTime :
    (tgt .tRespPending).st = .tRespPending ∧ (tgt .tRespPending).role = .target := by decide
theorem witness_TargetSendsTheNextBlock :
    let s := { tgt .tDepTx with txBuf := [(0, 0xDD), (1, 0xEE)], txLen := 2 }
    s.st = .tDepTx ∧ s.role = .target ∧
      s.txBuf.readBytes s.txOff (min (maxInf s) (s.txLen - s.txOff)) = some [0xDD, 0xEE] := by decide
theorem witness_InputsTakeTheirDefaultRow :
    ((ini .iSendAtr).st = .iSendAtr ∧ (ini .iSendPsl).st = .iSendPsl ∧ (tgt .tSendAtrRes).st = .tSendAtrRes ∧
      (ini .iSendDsl).st = .iSendDsl ∧ (ini .iSendRls).st = .iSendRls) ∧
      ((tgt .tRespPending).st = .tRespPending ∧ Input.rf (.err .linkLoss 0) ≠ .timerExpired) ∧
      waitsForRf (tgt .tDepRx).st = true ∧ (tgt .tDepRx).pendingReq = [] ∧ (∀ r, Input.timerExpired ≠ .rf r) :=
  ⟨by decide, by decide, by decide, by decide, fun r => by simp⟩
theorem witness_DeactivationRequestsCloseTheTarget :
    (tgt .tWaitActCompletion).st = .tWaitActCompletion ∧ (tgt .tDepRx).st = .tDepRx ∧
      (tgt .tAwaitRtoxRes).st = .tAwaitRtoxRes := by decide
theorem witness_DeactivationResponsesEndTheSession :
    (ini .iAwaitDslRes).st = .iAwaitDslRes ∧ (ini .iAwaitRlsRes).st = .iAwaitRlsRes ∧
      lengthAgrees [0x04, 0xD5, 0x09, 0x01] = true ∧ decode [0x04, 0xD5, 0x09, 0x01] = .ok (.dslRes (some 1) []) ∧
      some 1 ≠ optByte (ini .iAwaitDslRes).did := by decide
theorem witness_RfErrorsSurfaceOrRetry :
    waitsForRf live.st = true ∧ waitsForRf (tgt .tDepRx).st = true ∧ waitsForRf (tgt .tAwaitRtoxRes).st = true ∧
      (ini .iAwaitAtrRes).st = .iAwaitAtrRes ∧ (ini .iAwaitPslRes).st = .iAwaitPslRes ∧
      (ini .iAwaitDslRes).st = .iAwaitDslRes ∧ (ini .iAwaitRlsRes).st = .iAwaitRlsRes := by decide
theorem witness_DeactPendingOnlyShortCircuitsTimeouts :
    ¬ ((tgt .tDepRx).st = .iDepRx ∧ ∃ n, Input.rf (.err .timeout 0) = .rf (.err .timeout n)) ∧ live.st = .iDepRx :=
  ⟨fun h => absurd h.1 (by decide), rfl⟩
theorem witness_StepKeepsTheInvariant : Inv live ∧ ∃ t, step live = .next t := ⟨live_inv, _, rfl⟩
theorem witness_StepNeverStops : Inv live := live_inv
theorem witness_EveryFrameCompletesWhereReceptionIsArmed : waitsForRf live.st = true := rfl
theorem witness_ConfigurationIsFrozenInASession :
    (isActivation (.rf (.ok [0x04, 0xD5, 0x05, 0x00])) = false ∧
      nextIs (fun t => t.bitrateSend ≠ (ini .iAwaitPslRes).bitrateSend)
        (step (presenting (.rf (.ok [0x04, 0xD5, 0x05, 0x00])) false { ini .iAwaitPslRes with desiredBr := 2 })) = true) ∧
      (isSessionSt live.st = true ∧ isActivation .poll = false ∧ nextIs (fun _ => true) (step (presenting .poll false live))) ∧
      { iniCfg with nad := 1 }.nad ≠ 0 := by decide
theorem witness_AtMostOneRfActionPerStep : ∃ t, step live = .next t := ⟨_, rfl⟩
theorem witness_SentFramesAreWellDelimited :
    (Inv live ∧ nextIs (fun t => (t.actions.filterMap sentBytes).length = 1) (step live) = true) ∧
      ¬ (3 ≤ [(0x02 : Byte), 0xD4].length ∧ [(0x02 : Byte), 0xD4].length ≤ 255 ∧
        ([(0x02 : Byte), 0xD4].headD 0).toNat = [(0x02 : Byte), 0xD4].length) :=
  ⟨⟨live_inv, by decide⟩, by decide⟩

end Sys2Proof.Tests
end

section
/-! SUPPORT. The level `deact_pending` (20_memory.md R73): who reads it, and what a Timeout does with it. -/

namespace Sys2Proof.Machine

/-- The step on a received RF error is the Recovery Supervisor's answer, on an empty action list. -/
theorem step_presenting_err (e : RfErr) (n : Nat) (d : Bool) (s : State) :
    step (presenting (.rf (.err e n)) d s) = rfError e n d { s with actions := [] } := rfl

theorem rfError_timeout_of_iDepRx {s : State} (h : s.st = .iDepRx) (n : Nat) (d : Bool) :
    rfError .timeout n d s = recoverTimeout d s := by
  simp only [rfError, h]

/-- The first test of R240: the raise precedes every counter. -/
theorem recoverTimeout_true (s : State) : recoverTimeout true s = raise .timeout s := rfl

/-- Of the three classes of RF error only a timeout, and of the twenty states only `I_DEP_RX`, passes the level on. -/
theorem rfError_level_irrelevant {e : RfErr} {s : State} (h : ¬ (s.st = .iDepRx ∧ e = .timeout)) (n : Nat)
    (d d' : Bool) : rfError e n d s = rfError e n d' s := by
  cases e with
  | transmission k => rfl
  | linkLoss => rfl
  | timeout =>
    cases hs : s.st with
    | iDepRx => exact absurd ⟨hs, rfl⟩ h
    | _ => simp only [rfError, hs]

/-- An RF error is the one input whose work is given the level. -/
theorem workOf_level_irrelevant {input : Input} {s : State}
    (h : ¬ (s.st = .iDepRx ∧ ∃ n, input = .rf (.err .timeout n))) (d d' : Bool) :
    workOf input d s = workOf input d' s := by
  cases input with
  | poll => rfl
  | cmd c => rfl
  | timerExpired => rfl
  | rf r =>
    cases r with
    | ok bytes => rfl
    | err e n =>
      have hcase : ¬ (s.st = .iDepRx ∧ e = .timeout) := fun ⟨hst, he⟩ => h ⟨hst, n, by rw [he]⟩
      exact congrArg Work.finished (rfError_level_irrelevant hcase n d d')

/-- Settles O54: the level reaches a Timeout in `I_DEP_RX` alone, and R240 tests it before it counts a retry. -/
theorem deactPendingOnlyShortCircuitsTimeouts : Obligations.DeactPendingOnlyShortCircuitsTimeouts := by
  unfold Obligations.DeactPendingOnlyShortCircuitsTimeouts
  constructor
  · intro input d d' s h
    rw [step_presenting, step_presenting, workOf_level_irrelevant (s := { s with actions := [] }) h d d']
  · intro n s hst
    rw [step_presenting_err, rfError_timeout_of_iDepRx (s := { s with actions := [] }) hst,
      recoverTimeout_true, raise_eq_raised]
    simp only [hst, landing]

end Sys2Proof.Machine
end

section
/-! SUPPORT. Every frame a step transmits is well-delimited and of its role's CMD_TYPE (30_encoding.md R81, R82): what
is asked of a frame, of an action list and of a result, then one lemma per operation that can answer a step. -/

namespace Sys2Proof.Machine

/-! ### Frames -/

theorem lengthAgrees_iff {bytes : List Byte} :
    lengthAgrees bytes = true ↔
      3 ≤ bytes.length ∧ bytes.length ≤ 255 ∧ (bytes.headD 0).toNat = bytes.length := by
  simp [lengthAgrees, Config.lenMin, Config.lenMax, and_assoc]

/-- "Length first": a wrong LEN is rejected before anything else is read (40_codec.md R121). -/
theorem decode_of_not_lengthAgrees {bytes : List Byte} (h : ¬ lengthAgrees bytes = true) :
    decode bytes = .error .malformed := if_neg h

/-- A frame an engine of role `r` may send: its LEN is right (R81) and its CMD_TYPE is the role's (R82). -/
def SendableBy (r : Role) (bytes : List Byte) : Prop :=
  lengthAgrees bytes = true ∧ bytes.getD 1 0 = sentType r

theorem sendableBy_frameOf {k : FrameKind} {r : Role} {body : List Byte} (hk : (kindBytes k).1 = sentType r)
    (hb : body.length ≤ 252) : SendableBy r (frameOf k body) :=
  ⟨lengthAgrees_frameOf k hb, hk⟩

/-- A DEP frame has the CMD_TYPE of the role that encodes it (R132). -/
theorem sendableBy_encodeDep (k : DepKind) {payload : List Byte} {s : State} (h : payload.length ≤ maxInf s) :
    SendableBy s.role (encodeDep k payload s) :=
  ⟨lengthAgrees_encodeDep k h, encodeDep_type k payload s⟩

theorem sendableBy_encodeAtrReq {s : State} (hid : s.nfcid3Local.length = Config.nfcid3Len)
    (hgb : s.gbLocal.length ≤ Config.gbMax) : SendableBy .initiator (encodeAtrReq s) := by
  refine sendableBy_frameOf rfl ?_
  simp only [Config.nfcid3Len, Config.gbMax] at hid hgb
  simp only [List.length_append, List.length_cons]
  omega

theorem sendableBy_encodeAtrRes {s : State} (hid : s.nfcid3Local.length = Config.nfcid3Len)
    (hgb : s.gbLocal.length ≤ Config.gbMax) : SendableBy .target (encodeAtrRes s) := by
  refine sendableBy_frameOf rfl ?_
  simp only [Config.nfcid3Len, Config.gbMax] at hid hgb
  simp only [List.length_append, List.length_cons]
  omega

theorem length_toList_le_one (o : Option Byte) : o.toList.length ≤ 1 := by
  cases o <;> simp

theorem sendableBy_encodePslReq (s : State) : SendableBy .initiator (encodePslReq s) := by
  refine sendableBy_frameOf rfl ?_
  have hdid := length_toList_le_one (pslDid s)
  simp only [List.length_append, List.length_cons, List.length_nil]
  omega

theorem sendableBy_encodePslRes (s : State) : SendableBy .target (encodePslRes s) :=
  sendableBy_frameOf rfl (Nat.le_trans (length_toList_le_one (pslDid s)) (by decide))

theorem sendableBy_encodeDeact {k : FrameKind} {r : Role} (hk : (kindBytes k).1 = sentType r) (s : State) :
    SendableBy r (encodeDeact k s) :=
  sendableBy_frameOf hk (Nat.le_trans (length_toList_le_one (optByte s.did)) (by decide))

/-! ### Action lists and results -/

/-- Every frame that an action list transmits may be sent by role `r`. -/
def ActionsSendable (r : Role) (actions : List Action) : Prop :=
  ∀ a ∈ actions, ∀ bytes, sentBytes a = some bytes → SendableBy r bytes

@[simp] theorem actionsSendable_nil (r : Role) : ActionsSendable r [] := by
  simp [ActionsSendable]

@[simp] theorem actionsSendable_append {r : Role} {as bs : List Action} :
    ActionsSendable r (as ++ bs) ↔ ActionsSendable r as ∧ ActionsSendable r bs :=
  List.forall_mem_append

theorem actionsSendable_cons {r : Role} {a : Action} {as : List Action} :
    ActionsSendable r (a :: as) ↔
      (∀ bytes, sentBytes a = some bytes → SendableBy r bytes) ∧ ActionsSendable r as :=
  List.forall_mem_cons

@[simp] theorem actionsSendable_rfTxRx_cons {r : Role} {bytes : List Byte} {d : Deadline} {as : List Action} :
    ActionsSendable r (.rfTxRx bytes d :: as) ↔ SendableBy r bytes ∧ ActionsSendable r as := by
  simp [actionsSendable_cons, sentBytes]

/-- An action that transmits nothing asks nothing. -/
theorem actionsSendable_cons_of_silent {r : Role} {a : Action} (h : sentBytes a = none) {as : List Action} :
    ActionsSendable r (a :: as) ↔ ActionsSendable r as := by
  simp [actionsSendable_cons, h]

@[simp] theorem actionsSendable_rfRx_cons {r : Role} {d : Deadline} {as : List Action} :
    ActionsSendable r (.rfRx d :: as) ↔ ActionsSendable r as :=
  actionsSendable_cons_of_silent rfl

@[simp] theorem actionsSendable_timerStart_cons {r : Role} {n : Nat} {as : List Action} :
    ActionsSendable r (.timerStart n :: as) ↔ ActionsSendable r as :=
  actionsSendable_cons_of_silent rfl

@[simp] theorem actionsSendable_timerStop_cons {r : Role} {as : List Action} :
    ActionsSendable r (.timerStop :: as) ↔ ActionsSendable r as :=
  actionsSendable_cons_of_silent rfl

@[simp] theorem actionsSendable_setBitRate_cons {r : Role} {i j : BitVec 3} {as : List Action} :
    ActionsSendable r (.setBitRate i j :: as) ↔ ActionsSendable r as :=
  actionsSendable_cons_of_silent rfl

@[simp] theorem actionsSendable_updateDeviceRecord_cons {r : Role} {n : Nat} {i j : BitVec 3} {as : List Action} :
    ActionsSendable r (.updateDeviceRecord n i j :: as) ↔ ActionsSendable r as :=
  actionsSendable_cons_of_silent rfl

/-- Terminal entry transmits nothing (60_exceptions.md R340). -/
@[simp] theorem actionsSendable_terminalActions (r : Role) (lands : St) :
    ActionsSendable r (terminalActions lands) := by
  unfold terminalActions
  split <;> simp

/-- A DEP frame within `max_inf` keeps the action list sendable. -/
theorem actionsSendable_sendDep {k : DepKind} {payload : List Byte} {d : Deadline} {s : State} {r : Role}
    (hr : s.role = r) (hp : payload.length ≤ maxInf s) (h : ActionsSendable r s.actions) :
    ActionsSendable r (sendDep k payload d s).actions := by
  subst hr
  rw [sendDep_eq]
  simp [h, sendableBy_encodeDep k hp]

theorem actionsSendable_sendDep_nil {k : DepKind} {d : Deadline} {s : State} {r : Role} (hr : s.role = r)
    (h : ActionsSendable r s.actions) : ActionsSendable r (sendDep k [] d s).actions :=
  actionsSendable_sendDep hr (Nat.zero_le _) h

/-- A block of `next_block` fits a frame (R155). -/
theorem length_le_maxInf_of_nextBlock {s s' : State} {inf : List Byte} {mi : Bool}
    (h : nextBlock s = some (inf, mi, s')) : inf.length ≤ maxInf s := by
  obtain ⟨hread, -, -⟩ := nextBlock_eq_some.1 h
  obtain ⟨hlen, -⟩ := Memory.readBytes_eq_some.1 hread
  rw [hlen]
  exact Nat.min_le_left _ _

theorem length_singleton_le_maxInf (v : Byte) (s : State) : [v].length ≤ maxInf s :=
  Nat.le_trans (by simp) (maxInf_bounds s).1

/-- A step's answer, where it is a next state, transmits only what role `r` may send. -/
def ResultSendable (r : Role) (result : Result) : Prop := ∀ t, result = .next t → ActionsSendable r t.actions

@[simp] theorem resultSendable_ret {r : Role} {σ : Status} {s : State} :
    ResultSendable r (ret σ s) ↔ ActionsSendable r s.actions := by
  simp [ResultSendable]

@[simp] theorem resultSendable_fault (r : Role) (f : Fault) : ResultSendable r (.fault f) := by
  simp [ResultSendable]

@[simp] theorem resultSendable_hostError {r : Role} {e : Err} {s : State} :
    ResultSendable r (hostError e s) ↔ ActionsSendable r s.actions :=
  resultSendable_ret

@[simp] theorem resultSendable_ignore {r : Role} {s : State} :
    ResultSendable r (ignore s) ↔ ActionsSendable r s.actions := by
  simp [ignore]

@[simp] theorem resultSendable_raise {r : Role} {e : Err} {s : State} :
    ResultSendable r (raise e s) ↔ ActionsSendable r s.actions := by
  simp [raise]

theorem resultSendable_withRetry {r : Role} {c : Counter} {exhausted allowed : State → Result} {s : State}
    (hex : ResultSendable r (exhausted s)) (hal : ResultSendable r (allowed (bump c s))) :
    ResultSendable r (withRetry c exhausted allowed s) := by
  rcases withRetry_cases c exhausted allowed s with ⟨-, h⟩ | ⟨-, h⟩
  · rwa [h]
  · rwa [h]

/-! ### What a state must have for its step to send well -/

/-- The part of the invariant that transmissions rest on, with the actions the step has emitted so far. -/
structure SendReady (s : State) : Prop where
  role : RoleInv s
  nfcid3_local : s.nfcid3Local.length = Config.nfcid3Len
  gb_local : s.gbLocal.length ≤ Config.gbMax
  recorded : s.lastFrame ≠ [] → SendableBy s.role s.lastFrame
  actions : ActionsSendable s.role s.actions

theorem Inv.sendReady_beginStep {s : State} (h : Inv s) : SendReady (beginStep s) where
  role := ⟨h.role.initiator, h.role.target⟩
  nfcid3_local := h.registers.nfcid3_local
  gb_local := h.registers.gb_local
  recorded := fun hne => ⟨h.registers.last_frame hne, h.registers.last_type hne⟩
  actions := actionsSendable_nil _

namespace SendReady

variable {s : State}

theorem bump (h : SendReady s) (c : Counter) : SendReady (bump c s) where
  role := ⟨by simpa using h.role.initiator, by simpa using h.role.target⟩
  nfcid3_local := by simpa using h.nfcid3_local
  gb_local := by simpa using h.gb_local
  recorded := by simpa using h.recorded
  actions := by simpa using h.actions

theorem dequeue (h : SendReady s) : SendReady { s with pendingReq := [] } :=
  ⟨⟨h.role.initiator, h.role.target⟩, h.nfcid3_local, h.gb_local, h.recorded, h.actions⟩

theorem role_of_initiatorSt (h : SendReady s) {st : St} (hst : s.st = st) (hi : isInitiatorSt st = true) :
    s.role = .initiator := h.role.initiator (hst ▸ hi)

theorem role_of_targetSt (h : SendReady s) {st : St} (hst : s.st = st) (ht : isTargetSt st = true) :
    s.role = .target := h.role.target (hst ▸ ht)

/-- One frame after the actions so far. -/
theorem sendable_append_frame (h : SendReady s) {bytes : List Byte} (hb : SendableBy s.role bytes) (d : Deadline) :
    ActionsSendable s.role (s.actions ++ [.rfTxRx bytes d]) := by
  simp [h.actions, hb]

/-! ### The sending states -/

theorem sendable_sendAtrReq (h : SendReady s) (hst : s.st = .iSendAtr) : ResultSendable s.role (sendAtrReq s) := by
  have hr := h.role_of_initiatorSt hst rfl
  exact resultSendable_ret.2 (h.sendable_append_frame (hr ▸ sendableBy_encodeAtrReq h.nfcid3_local h.gb_local) _)

theorem sendable_sendPslReq (h : SendReady s) (hst : s.st = .iSendPsl) : ResultSendable s.role (sendPslReq s) := by
  have hr := h.role_of_initiatorSt hst rfl
  exact resultSendable_ret.2 (h.sendable_append_frame (hr ▸ sendableBy_encodePslReq s) _)

theorem sendable_sendDslReq (h : SendReady s) (hst : s.st = .iSendDsl) : ResultSendable s.role (sendDslReq s) := by
  have hr := h.role_of_initiatorSt hst rfl
  exact resultSendable_ret.2 (h.sendable_append_frame (sendableBy_encodeDeact (hr ▸ rfl) s) _)

theorem sendable_sendRlsReq (h : SendReady s) (hst : s.st = .iSendRls) : ResultSendable s.role (sendRlsReq s) := by
  have hr := h.role_of_initiatorSt hst rfl
  exact resultSendable_ret.2 (h.sendable_append_frame (sendableBy_encodeDeact (hr ▸ rfl) s) _)

theorem sendable_sendAtrRes (h : SendReady s) (hst : s.st = .tSendAtrRes) : ResultSendable s.role (sendAtrRes s) := by
  have hr := h.role_of_targetSt hst rfl
  exact resultSendable_ret.2 (h.sendable_append_frame (hr ▸ sendableBy_encodeAtrRes h.nfcid3_local h.gb_local) _)

/-- The block that `next_block` yields, as either role sends it. -/
theorem sendable_nextBlock (h : SendReady s) {s1 : State} {inf : List Byte} {mi : Bool}
    (hnext : nextBlock s = some (inf, mi, s1)) (d : Deadline) :
    ActionsSendable s.role (sendDep (.info mi) inf d { s1 with txChaining := mi }).actions := by
  have hlen := length_le_maxInf_of_nextBlock hnext
  obtain ⟨-, -, rfl⟩ := nextBlock_eq_some.1 hnext
  exact actionsSendable_sendDep rfl hlen h.actions

theorem sendable_sendBlockInitiator (h : SendReady s) : ResultSendable s.role (sendBlockInitiator s) := by
  unfold sendBlockInitiator
  split
  · exact resultSendable_fault _ _
  · rename_i inf mi s1 hnext
    exact resultSendable_ret.2 (h.sendable_nextBlock hnext _)

theorem sendable_sendBlockTarget (h : SendReady s) : ResultSendable s.role (sendBlockTarget s) := by
  unfold sendBlockTarget
  split
  · exact resultSendable_fault _ _
  · rename_i inf mi s1 hnext
    exact resultSendable_ret.2 (h.sendable_nextBlock hnext _)

/-- The role of each sending state is that of the frame it sends. -/
theorem sendable_tick (h : SendReady s) : ResultSendable s.role (tick s) := by
  rcases tick_cases s with ⟨hst, ht⟩ | ⟨hst, ht⟩ | ⟨-, ht⟩ | ⟨hst, ht⟩ | ⟨hst, ht⟩ | ⟨hst, ht⟩ | ⟨-, ht⟩ | ⟨-, ht⟩
  · exact ht ▸ h.sendable_sendAtrReq hst
  · exact ht ▸ h.sendable_sendPslReq hst
  · exact ht ▸ h.sendable_sendBlockInitiator
  · exact ht ▸ h.sendable_sendDslReq hst
  · exact ht ▸ h.sendable_sendRlsReq hst
  · exact ht ▸ h.sendable_sendAtrRes hst
  · exact ht ▸ h.sendable_sendBlockTarget
  · exact ht ▸ resultSendable_ret.2 h.actions

theorem sendable_unexpected (h : SendReady s) : ResultSendable s.role (unexpected s) := by
  rcases unexpected_cases s with ⟨-, hu⟩ | ⟨-, -, hu⟩ | ⟨-, -, -, hu⟩
  · exact hu ▸ h.sendable_tick
  · exact hu ▸ resultSendable_raise.2 h.actions
  · exact hu ▸ resultSendable_ignore.2 h.actions

/-! ### RF errors -/

/-- A DEP frame sent under a retry counter, in the form every retry of the data phase has. -/
theorem sendable_withRetry_sendDep (h : SendReady s) (c : Counter) (e : Err) (k : DepKind) {payload : State → List Byte}
    (hp : ∀ s, (payload s).length ≤ maxInf s) (d : State → Deadline) (lands : State → St) :
    ResultSendable s.role
      (withRetry c (raise e)
        (fun s1 => ret .inProgress { sendDep k (payload s1) (d s1) s1 with st := lands s1 }) s) := by
  refine resultSendable_withRetry (resultSendable_raise.2 h.actions) (resultSendable_ret.2 ?_)
  exact actionsSendable_sendDep (bump_role c s) (hp _) (by simpa using h.actions)

theorem sendable_sendNack (h : SendReady s) : ResultSendable s.role (sendNack s) :=
  h.sendable_withRetry_sendDep .nack _ .nack (fun _ => Nat.zero_le _) depDeadline State.st

theorem sendable_sendAtn (h : SendReady s) : ResultSendable s.role (sendAtn s) := by
  unfold sendAtn
  split
  · exact h.sendable_withRetry_sendDep .atn _ .atn (fun _ => Nat.zero_le _) depDeadline State.st
  · exact resultSendable_raise.2 h.actions

theorem sendable_recoverTransmission (h : SendReady s) (n : Nat) : ResultSendable s.role (recoverTransmission n s) := by
  unfold recoverTransmission
  split
  · simpa using h.actions
  · exact h.sendable_sendNack

theorem sendable_recoverTimeout (h : SendReady s) (d : Bool) : ResultSendable s.role (recoverTimeout d s) := by
  unfold recoverTimeout
  split
  · exact resultSendable_raise.2 h.actions
  · refine resultSendable_withRetry (resultSendable_raise.2 h.actions) ?_
    rw [← bump_role .timeout s]
    split
    · exact (h.bump .timeout).sendable_sendNack
    · exact (h.bump .timeout).sendable_sendAtn

theorem sendable_retryAtr (h : SendReady s) (k : TxErr) : ResultSendable s.role (retryAtr k s) :=
  resultSendable_withRetry (resultSendable_raise.2 h.actions) (by simpa using h.actions)

theorem sendable_retryPsl (h : SendReady s) (k : TxErr) : ResultSendable s.role (retryPsl k s) :=
  resultSendable_withRetry (resultSendable_raise.2 h.actions) (by simpa using h.actions)

theorem sendable_targetRfError (h : SendReady s) (e : RfErr) : ResultSendable s.role (targetRfError e s) := by
  cases e <;> simpa [targetRfError] using h.actions

theorem sendable_rfError (h : SendReady s) (e : RfErr) (n : Nat) (d : Bool) :
    ResultSendable s.role (rfError e n d s) := by
  rcases rfError_cases e n d s with ⟨-, he⟩ | ⟨-, -, he⟩ |
    ⟨-, -, ⟨k, -, -, he⟩ | ⟨k, -, -, he⟩ | ⟨k, -, -, he⟩ | ⟨-, -, he⟩ | he⟩
  · exact he ▸ h.sendable_tick
  · exact he ▸ h.sendable_targetRfError e
  · exact he ▸ h.sendable_retryAtr k
  · exact he ▸ h.sendable_retryPsl k
  · exact he ▸ h.sendable_recoverTransmission n
  · exact he ▸ h.sendable_recoverTimeout d
  · exact he ▸ resultSendable_raise.2 h.actions

theorem sendable_badFrame (h : SendReady s) (bytes : List Byte) (why : Reject) :
    ResultSendable s.role (badFrame bytes why s) := by
  unfold badFrame
  split
  · exact h.sendable_rfError _ _ _
  · split
    · exact resultSendable_ret.2 h.actions
    · exact h.sendable_unexpected

/-! ### Retransmission -/

/-- What is sent again is the recorded frame, which the role has sent before (41_sequencing_chaining_counters.md
R161). -/
theorem sendable_retransmit (h : SendReady s) (hl : hasLastFrame s = true) :
    ActionsSendable s.role (retransmit s).actions :=
  h.sendable_append_frame (h.recorded (by simpa [hasLastFrame] using hl)) _

theorem sendable_boundedRetransmit (h : SendReady s) : ResultSendable s.role (boundedRetransmit s) := by
  unfold boundedRetransmit
  split
  · rename_i hl
    refine resultSendable_withRetry (resultSendable_raise.2 h.actions) (resultSendable_ret.2 ?_)
    rw [← bump_role .tx s]
    exact (h.bump .tx).sendable_retransmit (by simpa [hasLastFrame] using hl)
  · exact resultSendable_raise.2 h.actions

theorem sendable_retransmitOrIgnore (h : SendReady s) : ResultSendable s.role (retransmitOrIgnore s) := by
  unfold retransmitOrIgnore
  split
  · rename_i hl
    exact resultSendable_ret.2 (h.sendable_retransmit hl)
  · exact resultSendable_ignore.2 h.actions

/-! ### DEP_RES at the Initiator -/

theorem sendable_onDepRes (h : SendReady s) (did nad : Option Byte) {body : State → Result}
    (hbody : ResultSendable s.role (body s)) : ResultSendable s.role (onDepRes did nad body s) := by
  unfold onDepRes
  split
  · split
    · exact hbody
    · exact resultSendable_raise.2 h.actions
  · exact h.sendable_unexpected

theorem sendable_initiatorInfo (h : SendReady s) (mi : Bool) (pni : Pni) (inf : List Byte) :
    ResultSendable s.role (initiatorInfo mi pni inf s) := by
  unfold initiatorInfo
  split_ifs
  · exact resultSendable_raise.2 h.actions
  · exact resultSendable_raise.2 h.actions
  · exact resultSendable_raise.2 h.actions
  · exact resultSendable_ret.2 (actionsSendable_sendDep_nil rfl h.actions)
  · exact resultSendable_ret.2 h.actions

theorem sendable_initiatorAck (h : SendReady s) (pni : Pni) : ResultSendable s.role (initiatorAck pni s) := by
  unfold initiatorAck
  split_ifs
  · exact resultSendable_ret.2 h.actions
  · exact resultSendable_ret.2 h.actions
  · exact h.sendable_boundedRetransmit
  · exact resultSendable_raise.2 h.actions

theorem sendable_initiatorAtn (h : SendReady s) : ResultSendable s.role (initiatorAtn s) := by
  unfold initiatorAtn
  split
  · exact h.sendable_boundedRetransmit
  · exact resultSendable_raise.2 h.actions

theorem sendable_initiatorRtox (h : SendReady s) (v : Byte) : ResultSendable s.role (initiatorRtox v s) := by
  unfold initiatorRtox
  split_ifs
  · exact resultSendable_raise.2 h.actions
  · exact resultSendable_raise.2 h.actions
  · exact h.sendable_withRetry_sendDep .rtox _ .rtox (length_singleton_le_maxInf v) (rtoxDeadline v) State.st

/-! ### DEP_REQ at the Target -/

theorem sendable_onDepReq (h : SendReady s) (frame : List Byte) (did nad : Option Byte)
    {inDepRx inAwaitRtox : State → Result}
    (hrx : ResultSendable s.role (inDepRx s)) (hrtox : ResultSendable s.role (inAwaitRtox s)) :
    ResultSendable s.role (onDepReq frame did nad inDepRx inAwaitRtox s) := by
  unfold onDepReq
  split_ifs
  · exact resultSendable_ret.2 h.actions
  · exact hrx
  · exact resultSendable_ignore.2 h.actions
  · exact hrtox
  · exact resultSendable_ignore.2 h.actions
  · exact h.sendable_unexpected

theorem sendable_repeatAfterAtn (h : SendReady s) (pni : Pni) : ResultSendable s.role (repeatAfterAtn pni s) := by
  unfold repeatAfterAtn
  split
  · exact h.sendable_retransmitOrIgnore
  · exact resultSendable_ignore.2 h.actions

theorem sendable_targetInfo (h : SendReady s) (mi : Bool) (pni : Pni) (inf : List Byte) :
    ResultSendable s.role (targetInfo mi pni inf s) := by
  unfold targetInfo
  split_ifs
  · exact resultSendable_ignore.2 h.actions
  · exact resultSendable_raise.2 h.actions
  · exact resultSendable_ret.2 (actionsSendable_sendDep_nil rfl h.actions)
  · simpa [acceptBlockTarget] using h.actions
  · exact h.sendable_repeatAfterAtn pni

theorem sendable_targetInfoAwaitingRtox (h : SendReady s) (pni : Pni) :
    ResultSendable s.role (targetInfoAwaitingRtox pni s) := by
  unfold targetInfoAwaitingRtox
  split
  · exact h.sendable_retransmitOrIgnore
  · exact resultSendable_ignore.2 h.actions

theorem sendable_targetAck (h : SendReady s) (pni : Pni) : ResultSendable s.role (targetAck pni s) := by
  unfold targetAck
  split
  · exact resultSendable_ret.2 h.actions
  · exact h.sendable_repeatAfterAtn pni

theorem sendable_targetAtn (h : SendReady s) : ResultSendable s.role (targetAtn s) := by
  unfold targetAtn
  split
  · exact resultSendable_ret.2 (actionsSendable_sendDep_nil rfl h.actions)
  · exact resultSendable_ignore.2 h.actions

theorem sendable_targetRtox (h : SendReady s) (v : Byte) : ResultSendable s.role (targetRtox v s) := by
  unfold targetRtox
  split_ifs
  · exact resultSendable_ret.2 h.actions
  · simpa using h.actions
  · exact resultSendable_ignore.2 h.actions

/-! ### Activation and deactivation frames -/

theorem sendable_execAtrReq (h : SendReady s) (nfcid3 : List Byte) (did bs br pp : Byte) (gb : List Byte) :
    ResultSendable s.role (execAtrReq nfcid3 did bs br pp gb s) := by
  unfold execAtrReq
  split_ifs
  · exact resultSendable_ret.2 h.actions
  · exact resultSendable_raise.2 h.actions
  · exact h.sendable_unexpected

theorem sendable_execAtrRes (h : SendReady s) (nfcid3 : List Byte) (did bs br tob pp : Byte) (gb : List Byte) :
    ResultSendable s.role (execAtrRes nfcid3 did bs br tob pp gb s) := by
  unfold execAtrRes
  split_ifs
  · exact resultSendable_ret.2 h.actions
  · exact resultSendable_ret.2 h.actions
  · exact resultSendable_raise.2 h.actions
  · exact h.sendable_unexpected

theorem sendable_execPslReq (h : SendReady s) (did : Option Byte) (brs fsl : Byte) :
    ResultSendable s.role (execPslReq did brs fsl s) := by
  unfold execPslReq
  split_ifs with hst
  · have hr := h.role_of_targetSt hst rfl
    have hb : SendableBy s.role (encodePslRes s) := hr ▸ sendableBy_encodePslRes s
    simp [acceptPslReq, h.actions, hb]
  · exact resultSendable_ignore.2 h.actions
  · exact h.sendable_unexpected

theorem sendable_execPslRes (h : SendReady s) (body : List Byte) : ResultSendable s.role (execPslRes body s) := by
  unfold execPslRes
  split_ifs
  · simp [acceptPslRes, h.actions]
  · exact resultSendable_raise.2 h.actions
  · exact h.sendable_unexpected

/-- The three states that take a deactivation request are a Target's (45_deactivation.md R305). -/
theorem role_of_takesDeactReq (h : SendReady s) (ht : takesDeactReq s.st = true) : s.role = .target := by
  refine h.role.target ?_
  cases hst : s.st <;> simp [takesDeactReq, hst] at ht <;> rfl

theorem sendable_closeTarget (h : SendReady s) {res : FrameKind} (hk : (kindBytes res).1 = sentType s.role)
    (lands : St) :
    ActionsSendable s.role (closeTarget res lands s).actions := by
  simp [closeTarget, h.actions, sendableBy_encodeDeact hk s]

theorem sendable_execDslReq (h : SendReady s) (did : Option Byte) (trail : List Byte) :
    ResultSendable s.role (execDslReq did trail s) := by
  unfold execDslReq
  split_ifs with htakes
  · exact resultSendable_ret.2 (h.sendable_closeTarget (h.role_of_takesDeactReq htakes ▸ rfl) _)
  · exact resultSendable_ignore.2 h.actions
  · exact h.sendable_unexpected

theorem sendable_execRlsReq (h : SendReady s) (did : Option Byte) (trail : List Byte) :
    ResultSendable s.role (execRlsReq did trail s) := by
  unfold execRlsReq
  split_ifs with htakes
  · exact resultSendable_ret.2 (h.sendable_closeTarget (h.role_of_takesDeactReq htakes ▸ rfl) _)
  · exact resultSendable_ignore.2 h.actions
  · exact h.sendable_unexpected

theorem sendable_execDslRes (h : SendReady s) (did : Option Byte) (trail : List Byte) :
    ResultSendable s.role (execDslRes did trail s) := by
  unfold execDslRes
  split_ifs
  · exact resultSendable_ret.2 h.actions
  · exact resultSendable_raise.2 h.actions
  · exact h.sendable_unexpected

theorem sendable_execRlsRes (h : SendReady s) (did : Option Byte) (trail : List Byte) :
    ResultSendable s.role (execRlsRes did trail s) := by
  unfold execRlsRes
  split_ifs
  · exact resultSendable_ret.2 h.actions
  · exact resultSendable_raise.2 h.actions
  · exact h.sendable_unexpected

/-! ### Every received frame, every command, the timer -/

theorem sendable_exec (h : SendReady s) (i : Instr) : ResultSendable s.role (exec i s) := by
  cases i with
  | atrReq nfcid3 did bs br pp gb => exact h.sendable_execAtrReq nfcid3 did bs br pp gb
  | atrRes nfcid3 did bs br tob pp gb => exact h.sendable_execAtrRes nfcid3 did bs br tob pp gb
  | pslReq did brs fsl => exact h.sendable_execPslReq did brs fsl
  | pslRes body => exact h.sendable_execPslRes body
  | depReqI mi pni did nad inf =>
    exact h.sendable_onDepReq _ did nad (h.sendable_targetInfo mi pni inf) (h.sendable_targetInfoAwaitingRtox pni)
  | depReqAck pni did nad trail =>
    exact h.sendable_onDepReq _ did nad (h.sendable_targetAck pni) (resultSendable_ignore.2 h.actions)
  | depReqNack pni did nad trail =>
    exact h.sendable_onDepReq _ did nad h.sendable_retransmitOrIgnore h.sendable_retransmitOrIgnore
  | depReqAtn low did nad trail => exact h.sendable_onDepReq _ did nad h.sendable_targetAtn h.sendable_targetAtn
  | depReqRtox low did nad v trail =>
    exact h.sendable_onDepReq _ did nad (resultSendable_ignore.2 h.actions) (h.sendable_targetRtox v)
  | depResI mi pni did nad inf => exact h.sendable_onDepRes did nad (h.sendable_initiatorInfo mi pni inf)
  | depResAck pni did nad trail => exact h.sendable_onDepRes did nad (h.sendable_initiatorAck pni)
  | depResNack pni did nad trail => exact h.sendable_onDepRes did nad (resultSendable_raise.2 h.actions)
  | depResAtn low did nad trail => exact h.sendable_onDepRes did nad h.sendable_initiatorAtn
  | depResRtox low did nad v trail => exact h.sendable_onDepRes did nad (h.sendable_initiatorRtox v)
  | dslReq did trail => exact h.sendable_execDslReq did trail
  | dslRes did trail => exact h.sendable_execDslRes did trail
  | rlsReq did trail => exact h.sendable_execRlsReq did trail
  | rlsRes did trail => exact h.sendable_execRlsRes did trail

theorem sendable_cmdExchange (h : SendReady s) (data : List Byte) : ResultSendable s.role (cmdExchange data s) := by
  have herr (e : Err) : ResultSendable s.role (hostError e s) := resultSendable_hostError.2 h.actions
  unfold cmdExchange
  split
  case h_1 =>
    split
    · exact resultSendable_ret.2 h.actions
    · exact herr _
  case h_2 =>
    split
    · simpa [startExchangeTarget, loadTxBuf] using h.actions
    · exact herr _
  case h_3 =>
    split_ifs
    · exact herr _
    · exact resultSendable_ret.2 h.actions
    · exact herr _
  all_goals exact herr _

theorem sendable_cmdInitActivate (h : SendReady s) (cfg : HostConfig) (atr : AtrParam) (desiredBr : Nat) :
    ResultSendable s.role (cmdInitActivate cfg atr desiredBr s) := by
  unfold cmdInitActivate
  split
  · simpa [loadInitiator] using h.actions
  · exact resultSendable_hostError.2 h.actions

theorem sendable_cmdTargListen (h : SendReady s) (cfg : HostConfig) (listen : ListenParam) :
    ResultSendable s.role (cmdTargListen cfg listen s) := by
  unfold cmdTargListen
  split
  · simpa [loadTarget] using h.actions
  · exact resultSendable_hostError.2 h.actions

theorem sendable_cmdDeselect (h : SendReady s) : ResultSendable s.role (cmdDeselect s) := by
  unfold cmdDeselect
  split
  · exact resultSendable_ret.2 h.actions
  · exact resultSendable_hostError.2 h.actions

theorem sendable_cmdRelease (h : SendReady s) : ResultSendable s.role (cmdRelease s) := by
  unfold cmdRelease
  split
  · exact resultSendable_ret.2 h.actions
  · exact resultSendable_hostError.2 h.actions

theorem sendable_command (h : SendReady s) (c : Cmd) : ResultSendable s.role (command c s) := by
  cases c with
  | initActivate cfg atr desiredBr => exact h.sendable_cmdInitActivate cfg atr desiredBr
  | targListen cfg listen => exact h.sendable_cmdTargListen cfg listen
  | exchange data => exact h.sendable_cmdExchange data
  | deselect => exact h.sendable_cmdDeselect
  | release => exact h.sendable_cmdRelease

theorem sendable_timerExpiry (h : SendReady s) : ResultSendable s.role (timerExpiry s) := by
  unfold timerExpiry
  split
  · exact h.sendable_withRetry_sendDep .rtox _ .rtox (fun s1 => length_singleton_le_maxInf (rtoxReqValue s1) s1)
      (fun _ => .noDeadline) (fun _ => .tAwaitRtoxRes)
  · exact resultSendable_raise.2 h.actions

end SendReady

/-! ### The step -/

/-- The outcome of a step's work. -/
def Work.outcome : Work → Result
  | .run i s => exec i s
  | .finished r => r

theorem step_eq_outcome (s : State) : step s = (fetch s).outcome := by
  unfold step Work.outcome
  cases fetch s <;> rfl

namespace SendReady

variable {s : State}

theorem sendable_receiveFrame (h : SendReady s) (bytes : List Byte) :
    ResultSendable s.role (receiveFrame bytes s).outcome := by
  unfold receiveFrame
  split
  · exact h.sendable_exec _
  · exact h.sendable_badFrame _ _

theorem sendable_pollWork (h : SendReady s) : ResultSendable s.role (pollWork s).outcome := by
  unfold pollWork
  split
  · exact h.dequeue.sendable_receiveFrame _
  · exact h.sendable_tick

theorem sendable_workOf (h : SendReady s) (input : Input) (d : Bool) :
    ResultSendable s.role (workOf input d s).outcome := by
  cases input with
  | poll => exact h.sendable_pollWork
  | cmd c => exact h.sendable_command c
  | rf result =>
    cases result with
    | ok bytes => exact h.sendable_receiveFrame bytes
    | err e n => exact h.sendable_rfError e n d
  | timerExpired =>
    simp only [workOf]
    split
    · exact h.sendable_timerExpiry
    · exact h.sendable_pollWork

end SendReady

/-- Under the invariant a step transmits only what the engine's role may send. -/
theorem resultSendable_step {s : State} (h : Inv s) : ResultSendable s.role (step s) := by
  rw [step_eq_outcome]
  exact h.sendReady_beginStep.sendable_workOf _ _

/-- Settles O60: what a step transmits is a frame built within its bounds or the recorded one, of the role its state
has; and the decoder tests LEN first. -/
theorem sentFramesAreWellDelimited : Obligations.SentFramesAreWellDelimited := by
  unfold Obligations.SentFramesAreWellDelimited
  constructor
  · intro s t hinv hstep a ha bytes hbytes
    obtain ⟨hlen, htype⟩ := resultSendable_step hinv t hstep a ha bytes hbytes
    obtain ⟨hmin, hmax, heq⟩ := lengthAgrees_iff.1 hlen
    exact ⟨hmin, hmax, heq, htype⟩
  · intro bytes hlen
    exact decode_of_not_lengthAgrees (mt lengthAgrees_iff.1 hlen)

end Sys2Proof.Machine
end

section
/-! SUPPORT. The deactivation frames the engine builds from its DID register (40_codec.md R135). -/

namespace Sys2Proof.Machine

/-- R135 for any kind of frame: LEN counts the DID byte where the session has one. -/
theorem encodeDeact_eq (k : FrameKind) (s : State) :
    encodeDeact k s =
      if s.did = 0 then [0x03, (kindBytes k).1, (kindBytes k).2]
      else [0x04, (kindBytes k).1, (kindBytes k).2, s.did] := by
  unfold encodeDeact optByte
  split <;> rfl

/-- Settles O7: the frame of R135 at each of the four command codes of R83. -/
theorem deactivationFramesAsBuilt : Obligations.DeactivationFramesAsBuilt := by
  unfold Obligations.DeactivationFramesAsBuilt
  intro s
  exact ⟨encodeDeact_eq .dslReq s, encodeDeact_eq .dslRes s, encodeDeact_eq .rlsReq s, encodeDeact_eq .rlsRes s⟩

end Sys2Proof.Machine
end

section
/-! SUPPORT. The exchange counters (41_sequencing_chaining_counters.md R153): what a frame can do in the two data
states, and that every outcome which ends a block exchange or starts an exchange has cleared them. -/

namespace Sys2Proof.Machine

variable {s : State}

/-! ### What a frame can do in the two data states -/

/-- All that a frame can do in `I_DEP_RX`: what one of the four answering classes of DEP_RES does past its header, or a
ProtocolError (R228 to R235). -/
theorem exec_iDepRx_cases (h : s.st = .iDepRx) (i : Instr) :
    exec i s = raise .protocolError s ∨ (∃ mi pni inf, exec i s = initiatorInfo mi pni inf s) ∨
      (∃ pni, exec i s = initiatorAck pni s) ∨ exec i s = initiatorAtn s ∨ ∃ v, exec i s = initiatorRtox v s := by
  have hun : unexpected s = raise .protocolError s := by simp only [unexpected, h]
  have hres (did nad : Option Byte) (body : State → Result) :
      onDepRes did nad body s = body s ∨ onDepRes did nad body s = raise .protocolError s := by
    rw [onDepRes, if_pos h]
    exact ite_eq_or_eq _ _ _
  cases i with
  | depResI mi pni did nad inf => exact (hres did nad _).symm.imp_right fun e => .inl ⟨mi, pni, inf, e⟩
  | depResAck pni did nad _ => exact (hres did nad _).symm.imp_right fun e => .inr (.inl ⟨pni, e⟩)
  | depResNack _ did nad _ => exact .inl ((hres did nad _).elim id id)
  | depResAtn _ did nad _ => exact (hres did nad _).symm.imp_right fun e => .inr (.inr (.inl e))
  | depResRtox _ did nad v _ => exact (hres did nad _).symm.imp_right fun e => .inr (.inr (.inr ⟨v, e⟩))
  | depReqI | depReqAck | depReqNack | depReqAtn | depReqRtox =>
    exact .inl (by
      simp [exec, execDepReqI, execDepReqAck, execDepReqNack, execDepReqAtn, execDepReqRtox, onDepReq, h, hun])
  | atrReq | atrRes | pslReq | pslRes =>
    exact .inl (by simp [exec, execAtrReq, execAtrRes, execPslReq, execPslRes, h, hun])
  | dslReq | dslRes | rlsReq | rlsRes =>
    exact .inl (by simp [exec, execDslReq, execDslRes, execRlsReq, execRlsRes, takesDeactReq, h, hun])

/-- All that a frame can do in `T_DEP_RX`: what a class of DEP_REQ does past its header, what a deactivation request
does, or *Ignore* (R263 to R272, 45_deactivation.md R305, R306). -/
theorem exec_tDepRx_cases (h : s.st = .tDepRx) (i : Instr) :
    exec i s = ignore s ∨ (∃ mi pni inf, exec i s = targetInfo mi pni inf s) ∨
      (∃ pni, exec i s = targetAck pni s) ∨ exec i s = retransmitOrIgnore s ∨ exec i s = targetAtn s ∨
      exec i s = ret .deselected (closeTarget .dslRes .tSleep s) ∨
      exec i s = ret .released (closeTarget .rlsRes .idle s) := by
  have hun : unexpected s = ignore s := by simp only [unexpected, h]
  have hreq (frame : List Byte) (did nad : Option Byte) (body inAwaitRtox : State → Result) :
      onDepReq frame did nad body inAwaitRtox s = body s ∨ onDepReq frame did nad body inAwaitRtox s = ignore s := by
    rw [onDepReq, if_neg (by simp [h]), if_pos h]
    exact ite_eq_or_eq _ _ _
  have htakes : takesDeactReq s.st = true := by rw [h]; rfl
  cases i with
  | depReqI mi pni did nad inf => exact (hreq _ did nad _ _).symm.imp_right fun e => .inl ⟨mi, pni, inf, e⟩
  | depReqAck pni did nad _ => exact (hreq _ did nad _ _).symm.imp_right fun e => .inr (.inl ⟨pni, e⟩)
  | depReqNack _ did nad _ => exact (hreq _ did nad _ _).symm.imp_right fun e => .inr (.inr (.inl e))
  | depReqAtn _ did nad _ => exact (hreq _ did nad _ _).symm.imp_right fun e => .inr (.inr (.inr (.inl e)))
  | depReqRtox _ did nad _ _ => exact .inl ((hreq _ did nad _ _).elim id id)
  | dslReq did _ =>
    rw [exec, execDslReq, if_pos htakes]
    split
    · simp
    · exact .inl rfl
  | rlsReq did _ =>
    rw [exec, execRlsReq, if_pos htakes]
    split
    · simp
    · exact .inl rfl
  | depResI | depResAck | depResNack | depResAtn | depResRtox =>
    exact .inl (by
      simp [exec, execDepResI, execDepResAck, execDepResNack, execDepResAtn, execDepResRtox, onDepRes, h, hun])
  | atrReq | atrRes | pslReq | pslRes =>
    exact .inl (by simp [exec, execAtrReq, execAtrRes, execPslReq, execPslRes, h, hun])
  | dslRes | rlsRes => exact .inl (by simp [exec, execDslRes, execRlsRes, h, hun])

/-! ### The verified block -/

/-- Raising an error never leads to a state that sends (60_exceptions.md R341). -/
theorem isSendSt_landing (st : St) : isSendSt (landing st) = false := by
  cases st <;> rfl

theorem exchangeCountersClear_clearCounters (s : State) : exchangeCountersClear (clearCounters s) :=
  ⟨rfl, rfl, rfl, rfl, rfl⟩

/-- What tells a successful block exchange from the other outcomes of a data state: the exchange is done or goes on, by
the status or by a block to send. -/
def EndsBlock (t : State) : Prop := t.status = .done ∨ t.status = .chainingContinue ∨ isSendSt t.st = true

/-- The answer has cleared the exchange counters if it ends a block exchange. -/
def ClearsAtBlock (result : Result) : Prop := ∀ t, result = .next t → EndsBlock t → exchangeCountersClear t

theorem clearsAtBlock_ret_of_clear {σ : Status} (h : exchangeCountersClear s) : ClearsAtBlock (ret σ s) := by
  rintro t ht -
  rw [ret_eq_next.1 ht]
  exact h

theorem clearsAtBlock_ret_of_not_send {σ : Status} (h : isSendSt s.st = false) (hdone : σ ≠ .done := by decide)
    (hchain : σ ≠ .chainingContinue := by decide) : ClearsAtBlock (ret σ s) := by
  intro t ht hends
  simp [ret_eq_next.1 ht, EndsBlock, hdone, hchain, h] at hends

theorem clearsAtBlock_raise (e : Err) : ClearsAtBlock (raise e s) :=
  clearsAtBlock_ret_of_not_send (isSendSt_landing s.st) (by simp) (by simp)

theorem clearsAtBlock_ignore (h : isSendSt s.st = false) : ClearsAtBlock (ignore s) :=
  clearsAtBlock_ret_of_not_send h

theorem clearsAtBlock_withRetry {c : Counter} {exhausted allowed : State → Result}
    (hex : ClearsAtBlock (exhausted s)) (hal : ClearsAtBlock (allowed (bump c s))) :
    ClearsAtBlock (withRetry c exhausted allowed s) := by
  rcases withRetry_cases c exhausted allowed s with ⟨-, h⟩ | ⟨-, h⟩
  · rwa [h]
  · rwa [h]

theorem clearsAtBlock_boundedRetransmit (h : isSendSt s.st = false) : ClearsAtBlock (boundedRetransmit s) := by
  unfold boundedRetransmit
  split
  · exact clearsAtBlock_withRetry (clearsAtBlock_raise _) (clearsAtBlock_ret_of_not_send (by simpa using h))
  · exact clearsAtBlock_raise _

theorem clearsAtBlock_retransmitOrIgnore (h : isSendSt s.st = false) : ClearsAtBlock (retransmitOrIgnore s) := by
  unfold retransmitOrIgnore
  split
  · exact clearsAtBlock_ret_of_not_send h
  · exact clearsAtBlock_ignore h

theorem clearsAtBlock_repeatAfterAtn (h : isSendSt s.st = false) (pni : Pni) :
    ClearsAtBlock (repeatAfterAtn pni s) := by
  unfold repeatAfterAtn
  split
  · exact clearsAtBlock_retransmitOrIgnore h
  · exact clearsAtBlock_ignore h

/-- R231 and R232: both verified blocks clear. -/
theorem clearsAtBlock_initiatorInfo (mi : Bool) (pni : Pni) (inf : List Byte) :
    ClearsAtBlock (initiatorInfo mi pni inf s) := by
  unfold initiatorInfo
  split_ifs
  · exact clearsAtBlock_raise _
  · exact clearsAtBlock_raise _
  · exact clearsAtBlock_raise _
  · exact clearsAtBlock_ret_of_clear (exchangeCountersClear_clearCounters s)
  · exact clearsAtBlock_ret_of_clear (exchangeCountersClear_clearCounters s)

/-- R228: the matching ACK clears, whether a block follows or not. -/
theorem clearsAtBlock_initiatorAck (h : isSendSt s.st = false) (pni : Pni) : ClearsAtBlock (initiatorAck pni s) := by
  unfold initiatorAck
  split_ifs
  · exact clearsAtBlock_ret_of_clear (exchangeCountersClear_clearCounters s)
  · exact clearsAtBlock_ret_of_clear (exchangeCountersClear_clearCounters s)
  · exact clearsAtBlock_boundedRetransmit h
  · exact clearsAtBlock_raise _

theorem clearsAtBlock_initiatorAtn (h : isSendSt s.st = false) : ClearsAtBlock (initiatorAtn s) := by
  unfold initiatorAtn
  split
  · exact clearsAtBlock_boundedRetransmit h
  · exact clearsAtBlock_raise _

/-- R234 grants time and ends no block: the counter it adds to stays. -/
theorem clearsAtBlock_initiatorRtox (h : isSendSt s.st = false) (v : Byte) : ClearsAtBlock (initiatorRtox v s) := by
  unfold initiatorRtox
  split_ifs
  · exact clearsAtBlock_raise _
  · exact clearsAtBlock_raise _
  · exact clearsAtBlock_withRetry (clearsAtBlock_raise _) (clearsAtBlock_ret_of_not_send (by simpa using h))

/-- R266 and R267: both accepted blocks clear. -/
theorem clearsAtBlock_targetInfo (h : isSendSt s.st = false) (mi : Bool) (pni : Pni) (inf : List Byte) :
    ClearsAtBlock (targetInfo mi pni inf s) := by
  unfold targetInfo
  split_ifs
  · exact clearsAtBlock_ignore h
  · exact clearsAtBlock_raise _
  · exact clearsAtBlock_ret_of_clear (exchangeCountersClear_clearCounters s)
  · exact clearsAtBlock_ret_of_clear (exchangeCountersClear_clearCounters s)
  · exact clearsAtBlock_repeatAfterAtn h pni

/-- R268 (a): the ACK that asks for the next block clears. -/
theorem clearsAtBlock_targetAck (h : isSendSt s.st = false) (pni : Pni) : ClearsAtBlock (targetAck pni s) := by
  unfold targetAck
  split
  · exact clearsAtBlock_ret_of_clear (exchangeCountersClear_clearCounters s)
  · exact clearsAtBlock_repeatAfterAtn h pni

theorem clearsAtBlock_targetAtn (h : isSendSt s.st = false) : ClearsAtBlock (targetAtn s) := by
  unfold targetAtn
  split
  · exact clearsAtBlock_ret_of_not_send h
  · exact clearsAtBlock_ignore h

theorem clearsAtBlock_exec_iDepRx (h : s.st = .iDepRx) (i : Instr) : ClearsAtBlock (exec i s) := by
  have hsend : isSendSt s.st = false := by rw [h]; rfl
  rcases exec_iDepRx_cases h i with e | ⟨mi, pni, inf, e⟩ | ⟨pni, e⟩ | e | ⟨v, e⟩ <;> rw [e]
  · exact clearsAtBlock_raise _
  · exact clearsAtBlock_initiatorInfo mi pni inf
  · exact clearsAtBlock_initiatorAck hsend pni
  · exact clearsAtBlock_initiatorAtn hsend
  · exact clearsAtBlock_initiatorRtox hsend v

theorem clearsAtBlock_exec_tDepRx (h : s.st = .tDepRx) (i : Instr) : ClearsAtBlock (exec i s) := by
  have hsend : isSendSt s.st = false := by rw [h]; rfl
  rcases exec_tDepRx_cases h i with e | ⟨mi, pni, inf, e⟩ | ⟨pni, e⟩ | e | e | e | e <;> rw [e]
  · exact clearsAtBlock_ignore hsend
  · exact clearsAtBlock_targetInfo hsend mi pni inf
  · exact clearsAtBlock_targetAck hsend pni
  · exact clearsAtBlock_retransmitOrIgnore hsend
  · exact clearsAtBlock_targetAtn hsend
  · exact clearsAtBlock_ret_of_not_send rfl
  · exact clearsAtBlock_ret_of_not_send rfl

/-! ### The start of an exchange -/

/-- `EXCHANGE` in `I_ACTIVE` (R220). -/
theorem cmdExchange_of_iActive (h : s.st = .iActive) (data : List Byte) :
    cmdExchange data s =
      if exchangeOk data s then ret .inProgress (startExchangeInitiator data s) else hostError .badParam s := by
  simp only [cmdExchange, h]

/-- `EXCHANGE` in `T_RESP_PENDING` (R280). -/
theorem cmdExchange_of_tRespPending (h : s.st = .tRespPending) (data : List Byte) :
    cmdExchange data s =
      if exchangeOk data s then ret .inProgress (startExchangeTarget data s) else hostError .badParam s := by
  simp only [cmdExchange, h]

/-- A guarded start that answers InProgress has started: the refusal answers an error. -/
theorem started_of_inProgress {ok : Bool} {e : Err} {started t : State}
    (h : (if ok then ret .inProgress started else hostError e s) = .next t) (hstatus : t.status = .inProgress) :
    t = { started with status := .inProgress } := by
  split at h
  · exact ret_eq_next.1 h
  · have hrefused : t = { s with status := .err e } := ret_eq_next.1 h
    simp [hrefused] at hstatus

/-- Settles O9: both data states clear at a verified block, and `EXCHANGE` clears where it starts an exchange. -/
theorem countersClearAtBlockAndExchange : Obligations.CountersClearAtBlockAndExchange := by
  unfold Obligations.CountersClearAtBlockAndExchange
  refine ⟨fun _ => rfl, ?_, ?_, ?_⟩
  · intro i s t hst hexec hends
    exact clearsAtBlock_exec_iDepRx hst i t hexec (hends.imp_right (Or.imp_right fun h => by rw [h]; rfl))
  · intro i s t hst hexec hends
    exact clearsAtBlock_exec_tDepRx hst i t hexec (hends.imp_right (Or.imp_right fun h => by rw [h]; rfl))
  · intro data s t hst hexchange hstatus
    rcases hst with hst | hst
    · rw [cmdExchange_of_iActive hst] at hexchange
      rw [started_of_inProgress hexchange hstatus]
      exact exchangeCountersClear_clearCounters s
    · rw [cmdExchange_of_tRespPending hst] at hexchange
      rw [started_of_inProgress hexchange hstatus]
      exact exchangeCountersClear_clearCounters s

end Sys2Proof.Machine
end

section
/-! SUPPORT. A well-delimited frame that the state does not accept (40_codec.md R121, R188, R204): it is no Malformed
frame, a frame of a kind the state does not take is unexpected, and in the states that raise on it the step is terminal
entry. -/

namespace Sys2Proof

/-! ### Malformed is the LEN check's verdict alone (R105) -/

theorem splitDep_ne_malformed (body : List Byte) : splitDep body ≠ .error .malformed := by
  unfold splitDep
  split
  · simp
  · split
    · simp
    · split
      · simp
      · split <;> simp

theorem depReqOf_ne_malformed (p : DepParts) : depReqOf p ≠ .error .malformed := by
  unfold depReqOf
  split
  case h_5 => split <;> simp
  all_goals simp

theorem depResOf_ne_malformed (p : DepParts) : depResOf p ≠ .error .malformed := by
  unfold depResOf
  split
  case h_5 => split <;> simp
  all_goals simp

/-- A DEP body is Malformed neither by its header nor by what its class asks for. -/
theorem splitDep_bind_ne_malformed (body : List Byte) {row : DepParts → Except Reject Instr}
    (hrow : ∀ p, row p ≠ .error .malformed) : (splitDep body).bind row ≠ .error .malformed := by
  cases hsplit : splitDep body with
  | ok p => exact hrow p
  | error why =>
    have hwhy := hsplit ▸ splitDep_ne_malformed body
    simpa [Except.bind] using hwhy

theorem decodeAtrReq_ne_malformed (body : List Byte) : decodeAtrReq body ≠ .error .malformed := by
  unfold decodeAtrReq
  split
  · simp
  · split
    · split <;> simp
    · simp

theorem decodeAtrRes_ne_malformed (body : List Byte) : decodeAtrRes body ≠ .error .malformed := by
  unfold decodeAtrRes
  split
  · simp
  · split
    · split <;> simp
    · simp

theorem decodePslReq_ne_malformed (body : List Byte) : decodePslReq body ≠ .error .malformed := by
  unfold decodePslReq
  split <;> simp

theorem decodeBody_ne_malformed (k : FrameKind) (body : List Byte) : decodeBody k body ≠ .error .malformed := by
  cases k with
  | atrReq => exact decodeAtrReq_ne_malformed body
  | atrRes => exact decodeAtrRes_ne_malformed body
  | pslReq => exact decodePslReq_ne_malformed body
  | depReq => exact splitDep_bind_ne_malformed body depReqOf_ne_malformed
  | depRes => exact splitDep_bind_ne_malformed body depResOf_ne_malformed
  | pslRes | dslReq | dslRes | rlsReq | rlsRes => simp [decodeBody]

/-- Whatever else is wrong with a frame whose LEN is right, it is not Malformed. -/
theorem decode_ne_malformed {bytes : List Byte} (hlen : lengthAgrees bytes = true) :
    decode bytes ≠ .error .malformed := by
  rw [decode, if_pos hlen]
  split
  · simp
  · exact decodeBody_ne_malformed _ _

/-! ### The kind of an instruction's frame -/

/-- The kind of frame an instruction is (30_encoding.md R83, R114). -/
def Instr.kind : Instr → FrameKind
  | .atrReq _ _ _ _ _ _ => .atrReq
  | .atrRes _ _ _ _ _ _ _ => .atrRes
  | .pslReq _ _ _ => .pslReq
  | .pslRes _ => .pslRes
  | .depReqI _ _ _ _ _ => .depReq
  | .depReqAck _ _ _ _ => .depReq
  | .depReqNack _ _ _ _ => .depReq
  | .depReqAtn _ _ _ _ => .depReq
  | .depReqRtox _ _ _ _ _ => .depReq
  | .depResI _ _ _ _ _ => .depRes
  | .depResAck _ _ _ _ => .depRes
  | .depResNack _ _ _ _ => .depRes
  | .depResAtn _ _ _ _ => .depRes
  | .depResRtox _ _ _ _ _ => .depRes
  | .dslReq _ _ => .dslReq
  | .dslRes _ _ => .dslRes
  | .rlsReq _ _ => .rlsReq
  | .rlsRes _ _ => .rlsRes

@[simp] theorem frameKind_encode (i : Instr) : frameKind (encode i) = some i.kind := by
  cases i <;> exact frameKind_frameOf _ _

end Sys2Proof

namespace Sys2Proof.Machine

variable {s : State}

/-! ### A frame of a kind the state does not take -/

theorem onDepReq_of_not_takesKind (h : takesKind .depReq s.st = false) (frame : List Byte) (did nad : Option Byte)
    (inDepRx inAwaitRtox : State → Result) : onDepReq frame did nad inDepRx inAwaitRtox s = unexpected s := by
  obtain ⟨⟨hact, hrx⟩, hrtox⟩ : (s.st ≠ .tWaitActCompletion ∧ s.st ≠ .tDepRx) ∧ s.st ≠ .tAwaitRtoxRes := by
    simpa [takesKind] using h
  rw [onDepReq, if_neg hact, if_neg hrx, if_neg hrtox]

theorem onDepRes_of_not_takesKind (h : takesKind .depRes s.st = false) (did nad : Option Byte)
    (body : State → Result) : onDepRes did nad body s = unexpected s :=
  if_neg (by simpa [takesKind] using h)

/-- The meaning of every frame is `unexpected` in every state that does not take its kind. -/
theorem exec_of_not_takesKind {i : Instr} (h : takesKind i.kind s.st = false) : exec i s = unexpected s := by
  cases i with
  | atrReq | atrRes | pslReq | pslRes | dslRes | rlsRes => exact if_neg (by simpa [takesKind, Instr.kind] using h)
  | dslReq | rlsReq => exact if_neg (Bool.eq_false_iff.1 h)
  | depReqI | depReqAck | depReqNack | depReqAtn | depReqRtox => exact onDepReq_of_not_takesKind h _ _ _ _ _
  | depResI | depResAck | depResNack | depResAtn | depResRtox => exact onDepRes_of_not_takesKind h _ _ _

/-! ### The states that raise on a frame they do not accept -/

/-- An Initiator that waits for a response, and a Target in `T_WAIT_ATR`: the states whose answer to an unexpected frame
is a ProtocolError (R188, R192, R204, R235, R307). -/
def RaisesUnexpected (st : St) : Prop := waitsForRf st = true ∧ (isInitiatorSt st = true ∨ st = .tWaitAtr)

theorem unexpected_of_raises (h : RaisesUnexpected s.st) : unexpected s = raise .protocolError s := by
  obtain ⟨hwaits, hside⟩ := h
  rcases unexpected_cases s with ⟨hnot, -⟩ | ⟨-, -, heq⟩ | ⟨-, htarget, hne, -⟩
  · simp [hwaits] at hnot
  · exact heq
  · rcases hside with hini | hatr
    · cases hst : s.st <;> simp [hst, isInitiatorSt, isTargetSt] at hini htarget
    · exact absurd hatr hne

theorem exec_of_raises (h : RaisesUnexpected s.st) {i : Instr} (hkind : takesKind i.kind s.st = false) :
    exec i s = raise .protocolError s :=
  (exec_of_not_takesKind hkind).trans (unexpected_of_raises h)

/-- Only `T_WAIT_ACT_COMPLETION` queues a frame that does not decode (R208), and it does not raise. -/
theorem badFrame_of_raises (h : RaisesUnexpected s.st) {why : Reject} (hwhy : why ≠ .malformed) (bytes : List Byte) :
    badFrame bytes why s = raise .protocolError s := by
  have hact : s.st ≠ .tWaitActCompletion := by
    intro hst
    simp [RaisesUnexpected, hst, isInitiatorSt] at h
  rw [badFrame, if_neg hwhy, if_neg fun hq => hact hq.1, unexpected_of_raises h]

/-- Receiving a well-delimited frame that decodes to nothing the state accepts. -/
theorem receiveFrame_of_unaccepted {bytes : List Byte} (hst : RaisesUnexpected s.st)
    (hlen : lengthAgrees bytes = true) (hexec : ∀ i, decode bytes = .ok i → exec i s = raise .protocolError s) :
    (receiveFrame bytes s).outcome = raise .protocolError s := by
  unfold receiveFrame
  split
  · exact hexec _ ‹_›
  · rename_i why hdecode
    have hwhy : why ≠ .malformed := fun h => decode_ne_malformed hlen (h ▸ hdecode)
    exact badFrame_of_raises hst hwhy bytes

/-- The step on a received frame, on an empty action list. -/
theorem step_presenting_ok (bytes : List Byte) (d : Bool) (s : State) :
    step (presenting (.rf (.ok bytes)) d s) = (receiveFrame bytes { s with actions := [] }).outcome :=
  step_eq_outcome _

/-- The step on a frame the state raises on is terminal entry with ProtocolError (60_exceptions.md R340). -/
theorem step_of_unaccepted {bytes : List Byte} (hst : RaisesUnexpected s.st) (hlen : lengthAgrees bytes = true)
    (hexec : ∀ i, decode bytes = .ok i →
      exec i { s with actions := [] } = raise .protocolError { s with actions := [] }) (d : Bool) :
    step (presenting (.rf (.ok bytes)) d s) =
      .next (raised .protocolError (landing s.st) { s with actions := [] }) := by
  rw [step_presenting_ok, receiveFrame_of_unaccepted (s := { s with actions := [] }) hst hlen hexec, raise_eq_raised]

end Sys2Proof.Machine
end

section
/-! SUPPORT. Activation ends with an error on every frame but the one it waits for (42_activation.md R188, R204). -/

namespace Sys2Proof.Machine

variable {s : State}

theorem raisesUnexpected_of_iAwaitAtrRes (h : s.st = .iAwaitAtrRes) : RaisesUnexpected s.st :=
  h ▸ ⟨rfl, .inl rfl⟩

theorem raisesUnexpected_of_tWaitAtr (h : s.st = .tWaitAtr) : RaisesUnexpected s.st :=
  h ▸ ⟨rfl, .inr rfl⟩

/-- In `I_AWAIT_ATR_RES` every frame but an ATR_RES with the DID sent is a ProtocolError (R188). -/
theorem exec_iAwaitAtrRes_of_ne (h : s.st = .iAwaitAtrRes) {i : Instr}
    (hne : ∀ nfcid3 bs br tob pp gb, i ≠ .atrRes nfcid3 s.did bs br tob pp gb) :
    exec i s = raise .protocolError s := by
  cases i with
  | atrRes nfcid3 did bs br tob pp gb =>
    have hdid : did ≠ s.did := fun hd => hne nfcid3 bs br tob pp gb (by rw [hd])
    simp only [exec, execAtrRes, if_pos h, if_neg hdid]
  | _ => exact exec_of_raises (raisesUnexpected_of_iAwaitAtrRes h) (by rw [h]; rfl)

/-- In `T_WAIT_ATR` every frame but an ATR_REQ with a legal DID is a ProtocolError (R204). -/
theorem exec_tWaitAtr_of_ne (h : s.st = .tWaitAtr) {i : Instr}
    (hne : ∀ nfcid3 did bs br pp gb, did.toNat ≤ s.params.didMax → i ≠ .atrReq nfcid3 did bs br pp gb) :
    exec i s = raise .protocolError s := by
  cases i with
  | atrReq nfcid3 did bs br pp gb =>
    have hdid : ¬ did.toNat ≤ s.params.didMax := fun hle => hne nfcid3 did bs br pp gb hle rfl
    simp only [exec, execAtrReq, if_pos h, if_neg hdid]
  | _ => exact exec_of_raises (raisesUnexpected_of_tWaitAtr h) (by rw [h]; rfl)

/-- Settles O21: a frame that decodes is raised on by its meaning, one that does not by its rejection, and
`I_AWAIT_ATR_RES` lands in `IDLE`. -/
theorem invalidAtrResIsFatal : Obligations.InvalidAtrResIsFatal := by
  unfold Obligations.InvalidAtrResIsFatal
  intro bytes d s hst hlen hne
  rw [step_of_unaccepted (raisesUnexpected_of_iAwaitAtrRes hst) hlen, hst]
  · rfl
  · intro i hdecode
    exact exec_iAwaitAtrRes_of_ne (s := { s with actions := [] }) hst fun nfcid3 bs br tob pp gb hi =>
      hne nfcid3 bs br tob pp gb (hi ▸ hdecode)

/-- Settles O22: as O21, with `T_WAIT_ATR` for the state; terminal entry transmits nothing. -/
theorem invalidAtrReqIsFatal : Obligations.InvalidAtrReqIsFatal := by
  unfold Obligations.InvalidAtrReqIsFatal
  intro bytes d s hst hlen hne
  rw [step_of_unaccepted (raisesUnexpected_of_tWaitAtr hst) hlen, hst]
  · rfl
  · intro i hdecode
    exact exec_tWaitAtr_of_ne (s := { s with actions := [] }) hst fun nfcid3 did bs br pp gb hle hi =>
      hne nfcid3 did bs br pp gb hle (hi ▸ hdecode)

end Sys2Proof.Machine
end

section
/-! SUPPORT. The "next step" states (10_state.md R21, R22): they send on every input but a command. Then the block that
`I_DEP_TX` sends (43_dep_initiator.md R222). -/

namespace Sys2Proof.Machine

variable {s : State}

/-! ### Every input but a command is a tick -/

theorem waitsForRf_of_isSendSt {st : St} (h : isSendSt st = true) : waitsForRf st = false := by
  cases st <;> revert h <;> decide

theorem unexpected_of_not_waiting (h : waitsForRf s.st = false) : unexpected s = tick s := by
  rcases unexpected_cases s with ⟨-, heq⟩ | ⟨hwaits, -⟩ | ⟨hwaits, -⟩
  · exact heq
  · simp [h] at hwaits
  · simp [h] at hwaits

theorem rfError_of_not_waiting (h : waitsForRf s.st = false) (e : RfErr) (n : Nat) (d : Bool) :
    rfError e n d s = tick s := by
  rcases rfError_cases e n d s with ⟨-, heq⟩ | ⟨hwaits, -⟩ | ⟨hwaits, -⟩
  · exact heq
  · simp [h] at hwaits
  · simp [h] at hwaits

theorem badFrame_of_not_waiting (h : waitsForRf s.st = false) (bytes : List Byte) (why : Reject) :
    badFrame bytes why s = tick s := by
  unfold badFrame
  split_ifs with hmalformed hqueue
  · exact rfError_of_not_waiting h _ _ _
  · simp [hqueue.1, waitsForRf] at h
  · exact unexpected_of_not_waiting h

/-- A frame in a state that does not wait for one is discarded, whether it decodes or not (R22 (c)). -/
theorem receiveFrame_of_not_waiting (h : waitsForRf s.st = false) (bytes : List Byte) :
    (receiveFrame bytes s).outcome = tick s := by
  unfold receiveFrame
  split
  · exact exec_of_not_waiting h _
  · exact badFrame_of_not_waiting h bytes _

theorem pollWork_of_isSendSt (h : isSendSt s.st = true) : pollWork s = .finished (tick s) :=
  if_neg fun hq => by simp [hq.1, isSendSt] at h

/-- A "next step" state sends on any input that is no command (R22 (d)). -/
theorem workOf_of_isSendSt (h : isSendSt s.st = true) {input : Input} (hcmd : ∀ c, input ≠ .cmd c) (d : Bool) :
    (workOf input d s).outcome = tick s := by
  have hwaits := waitsForRf_of_isSendSt h
  cases input with
  | poll => exact congrArg Work.outcome (pollWork_of_isSendSt h)
  | cmd c => exact absurd rfl (hcmd c)
  | timerExpired =>
    have hresp : s.st ≠ .tRespPending := fun hst => by simp [hst, isSendSt] at h
    rw [workOf, if_neg hresp, pollWork_of_isSendSt h]
    rfl
  | rf r =>
    cases r with
    | ok bytes => exact receiveFrame_of_not_waiting hwaits bytes
    | err e n => exact rfError_of_not_waiting hwaits e n d

theorem step_presenting_of_isSendSt (h : isSendSt s.st = true) {input : Input} (hcmd : ∀ c, input ≠ .cmd c)
    (d : Bool) : step (presenting input d s) = tick { s with actions := [] } :=
  (step_eq_outcome _).trans (workOf_of_isSendSt (s := { s with actions := [] }) h hcmd d)

/-! ### The block sent in `I_DEP_TX` -/

/-- An I-PDU as an Initiator encodes it is the frame of a DEP_REQ.I with the session's PNI, DID and NAD (40_codec.md
R132). -/
theorem encodeDep_info_of_initiator (h : s.role = .initiator) (mi : Bool) (inf : List Byte) :
    encodeDep (.info mi) inf s = encode (.depReqI mi s.pni (optByte s.did) (optByte s.nad) inf) := by
  rw [encodeDep, h]
  rfl

/-- An I-PDU is neither ATN nor RTOX, so it is recorded whole and `last_rtox_value` stays (R160). -/
theorem sendDep_info_of_initiator (h : s.role = .initiator) (mi : Bool) (inf : List Byte) (d : Deadline) :
    let f := encode (.depReqI mi s.pni (optByte s.did) (optByte s.nad) inf)
    sendDep (.info mi) inf d s =
      { s with
        actions := s.actions ++ [.rfTxRx f d]
        lastPfb := some (framePfb f)
        lastPfbExcludingAtn := some (framePfb f)
        lastFrame := f
        lastDeadline := d } := by
  rw [sendDep_eq, encodeDep_info_of_initiator h]
  rfl

/-- Where the buffer holds the next block, `I_DEP_TX` transmits it with its MI bit and waits for the response. -/
theorem sendBlockInitiator_of_read {inf : List Byte}
    (hread : s.txBuf.readBytes s.txOff (nextBlockLen s) = some inf) :
    sendBlockInitiator s =
      ret .inProgress
        { sendDep (.info (decide (s.txOff + nextBlockLen s < s.txLen))) inf (depDeadline s)
            { s with
              txOff := s.txOff + nextBlockLen s
              txChaining := decide (s.txOff + nextBlockLen s < s.txLen) } with
          st := .iDepRx } := by
  rw [sendBlockInitiator, nextBlock_eq_some.2 ⟨hread, rfl, rfl⟩]
  rfl

/-- Settles O26: the step is the tick of `I_DEP_TX`, which sends the block read and records its frame. -/
theorem initiatorSendsTheNextBlock : Obligations.InitiatorSendsTheNextBlock := by
  unfold Obligations.InitiatorSendsTheNextBlock
  intro inf s hst hrole hread off mi f input d hinput
  have hcmd : ∀ c, input ≠ .cmd c := by
    rintro c rfl
    simp at hinput
  have htick : tick { s with actions := [] } = sendBlockInitiator { s with actions := [] } := by
    simp only [tick, hst]
  rw [step_presenting_of_isSendSt (by rw [hst]; rfl) hcmd, htick,
    sendBlockInitiator_of_read (s := { s with actions := [] }) hread, sendDep_info_of_initiator]
  · rfl
  · exact hrole

end Sys2Proof.Machine
end

section
/-! SUPPORT. DEP_RES at an Initiator in `I_DEP_RX` (43_dep_initiator.md R228 to R235): the check of the header, the
R-PDUs it never expects, and the last block of a response. -/

namespace Sys2Proof.Machine

variable {s : State}

/-! ### The header of a DEP_RES (40_codec.md R133) -/

theorem headerOk_session (s : State) : headerOk (optByte s.did) (optByte s.nad) s = true := by
  simp [headerOk]

/-- A DEP_RES with the session's DID and NAD is processed by its class. -/
theorem onDepRes_of_session (h : s.st = .iDepRx) (body : State → Result) :
    onDepRes (optByte s.did) (optByte s.nad) body s = body s := by
  rw [onDepRes, if_pos h, if_pos (headerOk_session s)]

/-- A DEP_RES whose DID or NAD disagrees is a ProtocolError, whatever its class. -/
theorem onDepRes_of_header_ne (h : s.st = .iDepRx) {did nad : Option Byte}
    (hne : did ≠ optByte s.did ∨ nad ≠ optByte s.nad) (body : State → Result) :
    onDepRes did nad body s = raise .protocolError s := by
  have hheader : ¬ headerOk did nad s = true := by
    simpa [headerOk, imp_iff_not_or] using hne
  rw [onDepRes, if_pos h, if_neg hheader]

/-! ### Terminal entry in `I_DEP_RX` -/

/-- The cycle is aborted and the session goes on in `I_ACTIVE` (60_exceptions.md R341). -/
theorem raise_of_iDepRx (h : s.st = .iDepRx) (e : Err) : raise e s = .next (raised e .iActive s) := by
  rw [raise_eq_raised, h]
  rfl

theorem raisesUnexpected_of_iDepRx (h : s.st = .iDepRx) : RaisesUnexpected s.st :=
  h ▸ ⟨rfl, .inl rfl⟩

/-! ### The PNI an R-PDU carries (41_sequencing_chaining_counters.md R150, R152) -/

@[simp] theorem pniOk_self (s : State) : pniOk s.pni s = true := by
  simp [pniOk]

/-- Of the four values, one and two above the expected PNI are neither it nor the one before it. -/
theorem pni_ne_of_ahead {p q : Pni} (h : p = q + 1 ∨ p = q + 2) : p ≠ q ∧ p ≠ pniDec q := by
  unfold pniDec
  revert p q
  decide

/-- An ACK whose PNI is neither the expected one nor the one before it (R230). -/
theorem initiatorAck_of_ne {pni : Pni} (hok : pni ≠ s.pni) (hprev : pni ≠ pniDec s.pni) :
    initiatorAck pni s = raise .protocolError s := by
  rw [initiatorAck, if_neg (by simpa [pniOk] using hok), if_neg (by simpa [pniPrev] using hprev)]

/-- Settles O29: no ACK rule takes the PNI, and the NACK has no rule. -/
theorem otherReceiptsAreProtocolErrors : Obligations.OtherReceiptsAreProtocolErrors := by
  unfold Obligations.OtherReceiptsAreProtocolErrors
  intro pni trail s hst
  constructor
  · intro hahead
    obtain ⟨hok, hprev⟩ := pni_ne_of_ahead hahead
    rw [exec, execDepResAck, onDepRes_of_session hst, initiatorAck_of_ne hok hprev, raise_of_iDepRx hst]
  · rw [exec, execDepResNack, onDepRes_of_session hst, raise_of_iDepRx hst]

/-! ### A response block past its checks -/

/-- A DEP_RES.I that passes the three checks of R231 is appended, and its MI bit tells R231 from R232. -/
theorem initiatorInfo_of_checked {inf : List Byte} (hempty : inf ≠ [] ∨ emptyEn s = true)
    (hcap : s.rxLen + inf.length ≤ s.params.rxCap) (mi : Bool) :
    initiatorInfo mi s.pni inf s =
      if mi then
        ret .chainingContinue
          (sendDep .ack [] (depDeadline s) { acceptBlockInitiator inf s with rxChaining := true })
      else ret .done { acceptBlockInitiator inf s with rxChaining := false, st := .iActive } := by
  have hnotEmpty : ¬ (inf = [] ∧ emptyEn s = false) := by
    rintro ⟨hinf, hoff⟩
    simp [hinf, hoff] at hempty
  rw [initiatorInfo, if_neg (by simp), if_neg hnotEmpty, if_neg (Nat.not_lt.2 hcap)]
  rfl

/-- Settles O31: the header is the session's, the three checks pass, and MI is clear. -/
theorem finalResponseCompletesTheExchange : Obligations.FinalResponseCompletesTheExchange := by
  unfold Obligations.FinalResponseCompletesTheExchange
  intro inf s hst hempty hcap
  rw [exec, execDepResI, onDepRes_of_session hst, initiatorInfo_of_checked hempty hcap]
  rfl

/-! ### Everything else -/

/-- Settles O34: a DEP_RES fails its header check, another command is not taken in `I_DEP_RX`, and bytes that are no
instruction are rejected there. -/
theorem otherFramesAbortTheCycle : Obligations.OtherFramesAbortTheCycle := by
  unfold Obligations.OtherFramesAbortTheCycle
  intro bytes d s hst hlen hother
  have hst' : ({ s with actions := [] } : State).st = .iDepRx := hst
  rw [step_of_unaccepted (raisesUnexpected_of_iDepRx hst) hlen, hst]
  · rfl
  · intro i hdecode
    have hheader := hother i hdecode
    cases i with
    | depResI | depResAck | depResNack | depResAtn | depResRtox => exact onDepRes_of_header_ne hst' hheader _
    | _ => exact exec_of_raises (raisesUnexpected_of_iDepRx hst') (by rw [hst']; rfl)

end Sys2Proof.Machine
end

section
/-! SUPPORT. The request queued by activation, taken up in `T_DEP_RX` (44_dep_target.md R260). -/

namespace Sys2Proof.Machine

variable {s : State}

/-- A request queued in `T_DEP_RX` leaves the queue and is received (R260). -/
theorem pollWork_of_queued (hst : s.st = .tDepRx) (hqueued : s.pendingReq ≠ []) :
    pollWork s = receiveFrame s.pendingReq { s with pendingReq := [] } :=
  if_pos ⟨hst, hqueued⟩

/-- Only `T_RESP_PENDING` takes the timer (R283); every other state discards it and polls (10_state.md R22). -/
theorem workOf_timerExpired_of_ne (hst : s.st ≠ .tRespPending) (d : Bool) :
    workOf .timerExpired d s = pollWork s :=
  if_neg hst

/-- The two inputs of R260 do the work of receiving the queued request, with the queue emptied. -/
theorem workOf_of_queued (hst : s.st = .tDepRx) (hqueued : s.pendingReq ≠ []) {input : Input}
    (hinput : input = .poll ∨ input = .timerExpired) (d : Bool) :
    workOf input d s = workOf (.rf (.ok s.pendingReq)) d { s with pendingReq := [] } := by
  have hpoll : workOf input d s = pollWork s := by
    rcases hinput with rfl | rfl
    · rfl
    · exact workOf_timerExpired_of_ne (by simp [hst]) d
  exact hpoll.trans (pollWork_of_queued hst hqueued)

/-- Settles O16: on the same emptied action list the two inputs bring the same work. -/
theorem queuedRequestRunsAsIfReceived : Obligations.QueuedRequestRunsAsIfReceived := by
  unfold Obligations.QueuedRequestRunsAsIfReceived
  intro input d s hst hqueued hinput
  rw [step_presenting, step_presenting, workOf_of_queued (s := { s with actions := [] }) hst hqueued hinput]

end Sys2Proof.Machine
end

section
/-! SUPPORT. The configuration of a session (70_reset_and_hazards.md R375): the registers it is made of, what it asks of
a step, and one lemma per operation that can answer a step. Five places write a register of it outside an activation
command: ATR_RES sent, ATR_REQ and ATR_RES accepted, PSL_REQ and PSL_RES accepted; none is in a session state, and only
the last two write a bit rate. -/

namespace Sys2Proof.Machine

/-! ### The registers and the rule -/

/-- What nothing but an activation command writes. -/
def fixedRegisters (s : State) : Role × CommMode × Byte × BitVec 4 × List Byte :=
  (s.role, s.commMode, s.nad, s.oper, s.gbLocal)

/-- What activation negotiates and a session keeps. -/
def negotiatedRegisters (s : State) : Byte × BitVec 4 × BitVec 2 × BitVec 3 × BitVec 3 :=
  (s.did, s.wt, s.lr, s.bitrateSend, s.bitrateRecv)

def bitRates (s : State) : BitVec 3 × BitVec 3 := (s.bitrateSend, s.bitrateRecv)

theorem fixedRegisters_eq_iff {s t : State} :
    fixedRegisters t = fixedRegisters s ↔
      t.role = s.role ∧ t.commMode = s.commMode ∧ t.nad = s.nad ∧ t.oper = s.oper ∧ t.gbLocal = s.gbLocal := by
  simp only [fixedRegisters, Prod.mk.injEq]

theorem negotiatedRegisters_eq_iff {s t : State} :
    negotiatedRegisters t = negotiatedRegisters s ↔
      t.did = s.did ∧ t.wt = s.wt ∧ t.lr = s.lr ∧ t.bitrateSend = s.bitrateSend ∧ t.bitrateRecv = s.bitrateRecv := by
  simp only [negotiatedRegisters, Prod.mk.injEq]

theorem bitRates_ne_iff {s t : State} :
    bitRates t ≠ bitRates s ↔ t.bitrateSend ≠ s.bitrateSend ∨ t.bitrateRecv ≠ s.bitrateRecv := by
  simp only [bitRates, ne_eq, Prod.mk.injEq, not_and_or]

/-- A step that leaves a state with `before` in a state with `after` because the PSL frame it awaits has come (R193,
R207). -/
def PslEndsWait (received : Except Reject Instr) (before after : St) : Prop :=
  (before = .iAwaitPslRes ∧ after = .iActive ∧ ∃ body, received = .ok (.pslRes body)) ∨
    (before = .tWaitActCompletion ∧ after = .tDepRx ∧ ∃ did brs fsl, received = .ok (.pslReq did brs fsl))

/-- R375 of one step from `s` to `t`; `psl` says of the state landed in that a PSL frame led to it. -/
structure Frozen (psl : St → Prop) (s t : State) : Prop where
  fixed : fixedRegisters t = fixedRegisters s
  session : isSessionSt s.st = true → negotiatedRegisters t = negotiatedRegisters s
  rates : bitRates t ≠ bitRates s → psl t.st

/-- The answer, where it is a next state, respects R375. -/
def Freezes (psl : St → Prop) (s : State) (result : Result) : Prop := ∀ t, result = .next t → Frozen psl s t

/-- Every register of the configuration. -/
def configuration (s : State) := (fixedRegisters s, negotiatedRegisters s)

/-- The answer, where it is a next state, has the whole configuration of `s`. -/
def KeepsConfiguration (s : State) (result : Result) : Prop :=
  ∀ t, result = .next t → configuration t = configuration s

variable {psl : St → Prop} {s : State}

theorem bitRates_of_negotiatedRegisters {t : State} (h : negotiatedRegisters t = negotiatedRegisters s) :
    bitRates t = bitRates s :=
  congrArg (fun r => r.2.2.2) h

theorem KeepsConfiguration.freezes {result : Result} (h : KeepsConfiguration s result) : Freezes psl s result := by
  intro t ht
  obtain ⟨hfixed, hnegotiated⟩ := Prod.mk.inj (h t ht)
  exact ⟨hfixed, fun _ => hnegotiated, fun hne => absurd (bitRates_of_negotiatedRegisters hnegotiated) hne⟩

/-- In a session nothing is left for a PSL frame to change. -/
theorem Freezes.keepsConfiguration {result : Result} (h : Freezes psl s result) (hs : isSessionSt s.st = true) :
    KeepsConfiguration s result :=
  fun t ht => Prod.ext (h t ht).fixed ((h t ht).session hs)

theorem Freezes.imp {psl' : St → Prop} {result : Result} (h : Freezes psl s result) (himp : ∀ st, psl st → psl' st) :
    Freezes psl' s result :=
  fun t ht => ⟨(h t ht).fixed, (h t ht).session, fun hne => himp _ ((h t ht).rates hne)⟩

/-! ### The outcomes -/

theorem keepsConfiguration_ret {σ : Status} {u : State} (h : configuration u = configuration s) :
    KeepsConfiguration s (ret σ u) := by
  intro t ht
  rw [ret_eq_next.1 ht]
  exact h

theorem freezes_ret {σ : Status} {u : State} (h : configuration u = configuration s) : Freezes psl s (ret σ u) :=
  (keepsConfiguration_ret h).freezes

theorem keepsConfiguration_fault (f : Fault) : KeepsConfiguration s (.fault f) := by
  simp [KeepsConfiguration]

theorem keepsConfiguration_hostError (e : Err) : KeepsConfiguration s (hostError e s) := keepsConfiguration_ret rfl

theorem keepsConfiguration_ignore (s : State) : KeepsConfiguration s (ignore s) := keepsConfiguration_ret rfl

theorem keepsConfiguration_raise (e : Err) (s : State) : KeepsConfiguration s (raise e s) := keepsConfiguration_ret rfl

theorem configuration_bump (c : Counter) (s : State) : configuration (bump c s) = configuration s := by
  simp [configuration, fixedRegisters, negotiatedRegisters]

theorem configuration_advancePni (s : State) : configuration (advancePni s) = configuration s := rfl

/-- What every verified block does to the counters and the PNI (R151, R153). -/
theorem configuration_clearCounters_advancePni (s : State) :
    configuration (clearCounters (advancePni s)) = configuration s := by
  simp [configuration, fixedRegisters, negotiatedRegisters]

theorem configuration_sendDep (k : DepKind) (payload : List Byte) (d : Deadline) (s : State) :
    configuration (sendDep k payload d s) = configuration s := rfl

theorem keepsConfiguration_withRetry {c : Counter} {exhausted allowed : State → Result}
    (hex : KeepsConfiguration s (exhausted s)) (hal : KeepsConfiguration (bump c s) (allowed (bump c s))) :
    KeepsConfiguration s (withRetry c exhausted allowed s) := by
  rcases withRetry_cases c exhausted allowed s with ⟨-, h⟩ | ⟨-, h⟩
  · rw [h]
    exact fun t ht => (hal t ht).trans (configuration_bump c s)
  · rwa [h]

/-- A state outside a session may negotiate, but no bit rate. -/
theorem freezes_ret_of_activation {σ : Status} {u : State} (hs : isSessionSt s.st = false)
    (hfixed : fixedRegisters u = fixedRegisters s) (hrates : bitRates u = bitRates s) : Freezes psl s (ret σ u) := by
  intro t ht
  rw [ret_eq_next.1 ht]
  exact ⟨hfixed, fun hsession => by simp [hs] at hsession, fun hne => absurd hrates hne⟩

/-- A PSL frame that ends its wait may set the bit rates. -/
theorem freezes_ret_of_psl {σ : Status} {u : State} (hs : isSessionSt s.st = false)
    (hfixed : fixedRegisters u = fixedRegisters s) (hpsl : psl u.st) : Freezes psl s (ret σ u) := by
  intro t ht
  rw [ret_eq_next.1 ht]
  exact ⟨hfixed, fun hsession => by simp [hs] at hsession, fun _ => hpsl⟩

/-! ### The sending states -/

/-- A block is sent from the buffer and the offset alone (41_sequencing_chaining_counters.md R155). -/
theorem configuration_of_nextBlock {s1 : State} {inf : List Byte} {mi : Bool}
    (h : nextBlock s = some (inf, mi, s1)) : configuration s1 = configuration s := by
  obtain ⟨-, -, rfl⟩ := nextBlock_eq_some.1 h
  rfl

theorem keepsConfiguration_sendBlockInitiator (s : State) : KeepsConfiguration s (sendBlockInitiator s) := by
  unfold sendBlockInitiator
  split
  · exact keepsConfiguration_fault _
  · rename_i hnext
    have hs1 := configuration_of_nextBlock hnext
    exact keepsConfiguration_ret hs1

theorem keepsConfiguration_sendBlockTarget (s : State) : KeepsConfiguration s (sendBlockTarget s) := by
  unfold sendBlockTarget
  split
  · exact keepsConfiguration_fault _
  · rename_i hnext
    have hs1 := configuration_of_nextBlock hnext
    exact keepsConfiguration_ret hs1

/-- `T_SEND_ATR_RES` lowers `lr` (R205); every other sending state keeps the configuration. -/
theorem freezes_tick (s : State) : Freezes psl s (tick s) := by
  rcases tick_cases s with ⟨-, ht⟩ | ⟨-, ht⟩ | ⟨-, ht⟩ | ⟨-, ht⟩ | ⟨-, ht⟩ | ⟨hst, ht⟩ | ⟨-, ht⟩ | ⟨-, ht⟩ <;> rw [ht]
  · exact freezes_ret rfl
  · exact freezes_ret rfl
  · exact (keepsConfiguration_sendBlockInitiator s).freezes
  · exact freezes_ret rfl
  · exact freezes_ret rfl
  · exact freezes_ret_of_activation (by rw [hst]; rfl) rfl rfl
  · exact (keepsConfiguration_sendBlockTarget s).freezes
  · exact freezes_ret rfl

theorem freezes_unexpected (s : State) : Freezes psl s (unexpected s) := by
  rcases unexpected_cases s with ⟨-, hu⟩ | ⟨-, -, hu⟩ | ⟨-, -, -, hu⟩ <;> rw [hu]
  · exact freezes_tick s
  · exact (keepsConfiguration_raise _ s).freezes
  · exact (keepsConfiguration_ignore s).freezes

/-! ### RF errors -/

theorem keepsConfiguration_sendNack (s : State) : KeepsConfiguration s (sendNack s) :=
  keepsConfiguration_withRetry (keepsConfiguration_raise _ s) (keepsConfiguration_ret rfl)

theorem keepsConfiguration_sendAtn (s : State) : KeepsConfiguration s (sendAtn s) := by
  unfold sendAtn
  split
  · exact keepsConfiguration_withRetry (keepsConfiguration_raise _ s) (keepsConfiguration_ret rfl)
  · exact keepsConfiguration_raise _ s

theorem keepsConfiguration_recoverTransmission (n : Nat) (s : State) :
    KeepsConfiguration s (recoverTransmission n s) := by
  unfold recoverTransmission
  split
  · exact keepsConfiguration_ret rfl
  · exact keepsConfiguration_sendNack s

theorem keepsConfiguration_recoverTimeout (d : Bool) (s : State) : KeepsConfiguration s (recoverTimeout d s) := by
  unfold recoverTimeout
  split
  · exact keepsConfiguration_raise _ s
  · refine keepsConfiguration_withRetry (keepsConfiguration_raise _ s) ?_
    split
    · exact keepsConfiguration_sendNack _
    · exact keepsConfiguration_sendAtn _

theorem keepsConfiguration_targetRfError (e : RfErr) (s : State) : KeepsConfiguration s (targetRfError e s) := by
  cases e with
  | linkLoss => exact keepsConfiguration_raise _ s
  | timeout => exact keepsConfiguration_ignore s
  | transmission k => exact keepsConfiguration_ignore s

theorem freezes_rfError (e : RfErr) (n : Nat) (d : Bool) (s : State) : Freezes psl s (rfError e n d s) := by
  rcases rfError_cases e n d s with ⟨-, h⟩ | ⟨-, -, h⟩ | ⟨-, -, hini⟩
  · exact h ▸ freezes_tick s
  · exact h ▸ (keepsConfiguration_targetRfError e s).freezes
  · apply KeepsConfiguration.freezes
    rcases hini with ⟨k, -, -, h⟩ | ⟨k, -, -, h⟩ | ⟨k, -, -, h⟩ | ⟨-, -, h⟩ | h <;> rw [h]
    · exact keepsConfiguration_withRetry (keepsConfiguration_raise _ s) (keepsConfiguration_ret rfl)
    · exact keepsConfiguration_withRetry (keepsConfiguration_raise _ s) (keepsConfiguration_ret rfl)
    · exact keepsConfiguration_recoverTransmission n s
    · exact keepsConfiguration_recoverTimeout d s
    · exact keepsConfiguration_raise _ s

theorem freezes_badFrame (bytes : List Byte) (why : Reject) (s : State) : Freezes psl s (badFrame bytes why s) := by
  unfold badFrame
  split_ifs
  · exact freezes_rfError _ _ _ s
  · exact freezes_ret rfl
  · exact freezes_unexpected s

/-! ### Activation frames -/

/-- An accepted ATR_REQ sets `did` (R203). -/
theorem freezes_execAtrReq (nfcid3 : List Byte) (did bs br pp : Byte) (gb : List Byte) (s : State) :
    Freezes psl s (execAtrReq nfcid3 did bs br pp gb s) := by
  unfold execAtrReq
  split_ifs with hst
  · exact freezes_ret_of_activation (by rw [hst]; rfl) rfl rfl
  · exact (keepsConfiguration_raise _ s).freezes
  · exact freezes_unexpected s

/-- An accepted ATR_RES lowers `lr` and sets `wt`, whether PSL follows or not (R189). -/
theorem freezes_execAtrRes (nfcid3 : List Byte) (did bs br tob pp : Byte) (gb : List Byte) (s : State) :
    Freezes psl s (execAtrRes nfcid3 did bs br tob pp gb s) := by
  unfold execAtrRes
  split_ifs with hst
  · exact freezes_ret_of_activation (by rw [hst]; rfl) rfl rfl
  · exact freezes_ret_of_activation (by rw [hst]; rfl) rfl rfl
  · exact (keepsConfiguration_raise _ s).freezes
  · exact freezes_unexpected s

/-- An accepted PSL_REQ ends `T_WAIT_ACT_COMPLETION` (R207). -/
theorem freezes_execPslReq (did : Option Byte) (brs fsl : Byte) (s : State) :
    Freezes (PslEndsWait (.ok (.pslReq did brs fsl)) s.st) s (execPslReq did brs fsl s) := by
  unfold execPslReq
  split_ifs with hst
  · exact freezes_ret_of_psl (by rw [hst]; rfl) rfl (.inr ⟨hst, rfl, did, brs, fsl, rfl⟩)
  · exact (keepsConfiguration_ignore s).freezes
  · exact freezes_unexpected s

/-- An accepted PSL_RES ends `I_AWAIT_PSL_RES` (R193). -/
theorem freezes_execPslRes (body : List Byte) (s : State) :
    Freezes (PslEndsWait (.ok (.pslRes body)) s.st) s (execPslRes body s) := by
  unfold execPslRes
  split_ifs with hst
  · exact freezes_ret_of_psl (by rw [hst]; rfl) rfl (.inl ⟨hst, rfl, body, rfl⟩)
  · exact (keepsConfiguration_raise _ s).freezes
  · exact freezes_unexpected s

/-! ### Deactivation frames -/

/-- A deactivation request, DSL or RLS, at a Target (45_deactivation.md R305, R306). -/
theorem freezes_deactReq {takes matched : Prop} [Decidable takes] [Decidable matched] (σ : Status) (res : FrameKind)
    (lands : St) (s : State) :
    Freezes psl s
      (if takes then if matched then ret σ (closeTarget res lands s) else ignore s else unexpected s) := by
  split_ifs
  · exact freezes_ret rfl
  · exact (keepsConfiguration_ignore s).freezes
  · exact freezes_unexpected s

/-- A deactivation response, DSL or RLS, at an Initiator (R303, R304, R307). -/
theorem freezes_deactRes {takes matched : Prop} [Decidable takes] [Decidable matched] (s : State) :
    Freezes psl s
      (if takes then if matched then closeInitiator s else raise .protocolError s else unexpected s) := by
  split_ifs
  · exact freezes_ret rfl
  · exact (keepsConfiguration_raise _ s).freezes
  · exact freezes_unexpected s

/-! ### DEP_RES -/

theorem keepsConfiguration_boundedRetransmit (s : State) : KeepsConfiguration s (boundedRetransmit s) := by
  unfold boundedRetransmit
  split
  · exact keepsConfiguration_withRetry (keepsConfiguration_raise _ s) (keepsConfiguration_ret rfl)
  · exact keepsConfiguration_raise _ s

theorem configuration_acceptBlockInitiator (inf : List Byte) (s : State) :
    configuration (acceptBlockInitiator inf s) = configuration s :=
  configuration_clearCounters_advancePni (append inf s)

theorem keepsConfiguration_initiatorInfo (mi : Bool) (pni : Pni) (inf : List Byte) (s : State) :
    KeepsConfiguration s (initiatorInfo mi pni inf s) := by
  unfold initiatorInfo
  split_ifs
  · exact keepsConfiguration_raise _ s
  · exact keepsConfiguration_raise _ s
  · exact keepsConfiguration_raise _ s
  · exact keepsConfiguration_ret ((configuration_sendDep _ _ _ _).trans (configuration_acceptBlockInitiator inf s))
  · exact keepsConfiguration_ret (configuration_acceptBlockInitiator inf s)

theorem keepsConfiguration_initiatorAck (pni : Pni) (s : State) : KeepsConfiguration s (initiatorAck pni s) := by
  unfold initiatorAck
  split_ifs
  · exact keepsConfiguration_ret (configuration_clearCounters_advancePni s)
  · exact keepsConfiguration_ret (configuration_clearCounters_advancePni s)
  · exact keepsConfiguration_boundedRetransmit s
  · exact keepsConfiguration_raise _ s

theorem keepsConfiguration_initiatorAtn (s : State) : KeepsConfiguration s (initiatorAtn s) := by
  unfold initiatorAtn
  split
  · exact keepsConfiguration_boundedRetransmit s
  · exact keepsConfiguration_raise _ s

theorem keepsConfiguration_initiatorRtox (v : Byte) (s : State) : KeepsConfiguration s (initiatorRtox v s) := by
  unfold initiatorRtox
  split_ifs
  · exact keepsConfiguration_raise _ s
  · exact keepsConfiguration_raise _ s
  · exact keepsConfiguration_withRetry (keepsConfiguration_raise _ s) (keepsConfiguration_ret rfl)

theorem freezes_onDepRes {did nad : Option Byte} {body : State → Result} (h : KeepsConfiguration s (body s)) :
    Freezes psl s (onDepRes did nad body s) := by
  unfold onDepRes
  split_ifs
  · exact h.freezes
  · exact (keepsConfiguration_raise _ s).freezes
  · exact freezes_unexpected s

/-! ### DEP_REQ -/

theorem keepsConfiguration_retransmitOrIgnore (s : State) : KeepsConfiguration s (retransmitOrIgnore s) := by
  unfold retransmitOrIgnore
  split
  · exact keepsConfiguration_ret rfl
  · exact keepsConfiguration_ignore s

theorem keepsConfiguration_repeatAfterAtn (pni : Pni) (s : State) : KeepsConfiguration s (repeatAfterAtn pni s) := by
  unfold repeatAfterAtn
  split
  · exact keepsConfiguration_retransmitOrIgnore s
  · exact keepsConfiguration_ignore s

theorem configuration_acceptBlockTarget (inf : List Byte) (s : State) :
    configuration (acceptBlockTarget inf s) = configuration s := by
  simp [configuration, fixedRegisters, negotiatedRegisters, acceptBlockTarget]

theorem keepsConfiguration_targetInfo (mi : Bool) (pni : Pni) (inf : List Byte) (s : State) :
    KeepsConfiguration s (targetInfo mi pni inf s) := by
  unfold targetInfo
  split_ifs
  · exact keepsConfiguration_ignore s
  · exact keepsConfiguration_raise _ s
  · exact keepsConfiguration_ret <| (configuration_advancePni _).trans <|
      (configuration_sendDep _ _ _ _).trans (configuration_acceptBlockTarget inf s)
  · exact keepsConfiguration_ret (configuration_acceptBlockTarget inf s)
  · exact keepsConfiguration_repeatAfterAtn pni s

theorem keepsConfiguration_targetInfoAwaitingRtox (pni : Pni) (s : State) :
    KeepsConfiguration s (targetInfoAwaitingRtox pni s) := by
  unfold targetInfoAwaitingRtox
  split
  · exact keepsConfiguration_retransmitOrIgnore s
  · exact keepsConfiguration_ignore s

theorem keepsConfiguration_targetAck (pni : Pni) (s : State) : KeepsConfiguration s (targetAck pni s) := by
  unfold targetAck
  split
  · exact keepsConfiguration_ret rfl
  · exact keepsConfiguration_repeatAfterAtn pni s

theorem keepsConfiguration_targetAtn (s : State) : KeepsConfiguration s (targetAtn s) := by
  unfold targetAtn
  split
  · exact keepsConfiguration_ret rfl
  · exact keepsConfiguration_ignore s

theorem keepsConfiguration_targetRtox (v : Byte) (s : State) : KeepsConfiguration s (targetRtox v s) := by
  unfold targetRtox
  split_ifs
  · exact keepsConfiguration_ret rfl
  · exact keepsConfiguration_ret rfl
  · exact keepsConfiguration_ignore s

theorem freezes_onDepReq {frame : List Byte} {did nad : Option Byte} {inDepRx inAwaitRtox : State → Result}
    (hrx : KeepsConfiguration s (inDepRx s)) (hrtox : KeepsConfiguration s (inAwaitRtox s)) :
    Freezes psl s (onDepReq frame did nad inDepRx inAwaitRtox s) := by
  unfold onDepReq
  split_ifs
  · exact freezes_ret rfl
  · exact hrx.freezes
  · exact (keepsConfiguration_ignore s).freezes
  · exact hrtox.freezes
  · exact (keepsConfiguration_ignore s).freezes
  · exact freezes_unexpected s

/-! ### The step -/

/-- Of the eighteen frames two set a bit rate, and both end the wait for PSL. -/
theorem freezes_exec (i : Instr) (s : State) : Freezes (PslEndsWait (.ok i) s.st) s (exec i s) := by
  cases i with
  | atrReq nfcid3 did bs br pp gb => exact freezes_execAtrReq nfcid3 did bs br pp gb s
  | atrRes nfcid3 did bs br tob pp gb => exact freezes_execAtrRes nfcid3 did bs br tob pp gb s
  | pslReq did brs fsl => exact freezes_execPslReq did brs fsl s
  | pslRes body => exact freezes_execPslRes body s
  | depReqI mi pni did nad inf =>
    exact freezes_onDepReq (keepsConfiguration_targetInfo mi pni inf s) (keepsConfiguration_targetInfoAwaitingRtox pni s)
  | depReqAck pni => exact freezes_onDepReq (keepsConfiguration_targetAck pni s) (keepsConfiguration_ignore s)
  | depReqNack =>
    exact freezes_onDepReq (keepsConfiguration_retransmitOrIgnore s) (keepsConfiguration_retransmitOrIgnore s)
  | depReqAtn => exact freezes_onDepReq (keepsConfiguration_targetAtn s) (keepsConfiguration_targetAtn s)
  | depReqRtox low did nad v =>
    exact freezes_onDepReq (keepsConfiguration_ignore s) (keepsConfiguration_targetRtox v s)
  | depResI mi pni did nad inf => exact freezes_onDepRes (keepsConfiguration_initiatorInfo mi pni inf s)
  | depResAck pni => exact freezes_onDepRes (keepsConfiguration_initiatorAck pni s)
  | depResNack => exact freezes_onDepRes (keepsConfiguration_raise _ s)
  | depResAtn => exact freezes_onDepRes (keepsConfiguration_initiatorAtn s)
  | depResRtox low did nad v => exact freezes_onDepRes (keepsConfiguration_initiatorRtox v s)
  | dslReq did => exact freezes_deactReq .deselected .dslRes .tSleep s
  | dslRes did => exact freezes_deactRes s
  | rlsReq did => exact freezes_deactReq .released .rlsRes .idle s
  | rlsRes did => exact freezes_deactRes s

theorem freezes_receiveFrame (bytes : List Byte) (s : State) :
    Freezes (PslEndsWait (decode bytes) s.st) s (receiveFrame bytes s).outcome := by
  unfold receiveFrame
  split
  · rename_i i hdecode
    rw [hdecode]
    exact freezes_exec i s
  · exact freezes_badFrame bytes _ s

/-- A queued request is taken up in `T_DEP_RX`, a session state, so even a PSL frame in the queue sets no bit rate. -/
theorem freezes_pollWork (s : State) : Freezes psl s (pollWork s).outcome := by
  by_cases hq : s.st = .tDepRx ∧ s.pendingReq ≠ []
  · obtain ⟨hst, hne⟩ := hq
    have hkeeps : KeepsConfiguration { s with pendingReq := [] }
        (receiveFrame s.pendingReq { s with pendingReq := [] }).outcome :=
      (freezes_receiveFrame _ _).keepsConfiguration (by rw [hst]; rfl)
    rw [pollWork_of_queued hst hne]
    exact KeepsConfiguration.freezes (s := s) hkeeps
  · rw [pollWork, if_neg hq]
    exact freezes_tick s

theorem keepsConfiguration_timerExpiry (s : State) : KeepsConfiguration s (timerExpiry s) := by
  unfold timerExpiry
  split
  · exact keepsConfiguration_withRetry (keepsConfiguration_raise _ s) (keepsConfiguration_ret rfl)
  · exact keepsConfiguration_raise _ s

/-! ### Commands -/

/-- A guarded command keeps the configuration if what it starts does. -/
theorem keepsConfiguration_guarded {ok : Prop} [Decidable ok] {σ : Status} {e : Err} {started : State}
    (h : configuration started = configuration s) :
    KeepsConfiguration s (if ok then ret σ started else hostError e s) := by
  split
  · exact keepsConfiguration_ret h
  · exact keepsConfiguration_hostError e

theorem keepsConfiguration_cmdExchange (data : List Byte) (s : State) : KeepsConfiguration s (cmdExchange data s) := by
  unfold cmdExchange
  split
  case h_1 => exact keepsConfiguration_guarded rfl
  case h_2 => exact keepsConfiguration_guarded rfl
  case h_3 =>
    split
    · exact keepsConfiguration_hostError _
    · exact keepsConfiguration_guarded rfl
  all_goals exact keepsConfiguration_hostError _

theorem keepsConfiguration_command {c : Cmd} (h : isActivation (.cmd c) = false) (s : State) :
    KeepsConfiguration s (command c s) := by
  cases c with
  | initActivate | targListen => cases h
  | exchange data => exact keepsConfiguration_cmdExchange data s
  | deselect => exact keepsConfiguration_guarded rfl
  | release => exact keepsConfiguration_guarded rfl

/-- The one input that may end a wait for PSL is a received frame. -/
theorem freezes_workOf {input : Input} (h : isActivation input = false) (d : Bool) (s : State) :
    Freezes (fun st => ∃ bytes, input = .rf (.ok bytes) ∧ PslEndsWait (decode bytes) s.st st) s
      (workOf input d s).outcome := by
  cases input with
  | poll => exact freezes_pollWork s
  | cmd c => exact (keepsConfiguration_command h s).freezes
  | rf result =>
    cases result with
    | ok bytes => exact (freezes_receiveFrame bytes s).imp fun _ hpsl => ⟨bytes, rfl, hpsl⟩
    | err e n => exact freezes_rfError e n d s
  | timerExpired =>
    rw [workOf]
    split
    · exact (keepsConfiguration_timerExpiry s).freezes
    · exact freezes_pollWork s

/-- An Initiator takes no NAD (10_state.md R28). -/
theorem initParamsOk_of_nad_ne {cfg : HostConfig} (h : cfg.nad ≠ 0) (p : Config.Params) (atr : AtrParam) (br : Nat) :
    initParamsOk p cfg atr br = false := by
  have hnad : (cfg.nad == 0) = false := beq_eq_false_iff_ne.2 h
  simp only [initParamsOk, hnad, Bool.and_false, Bool.false_and]

theorem cmdInitActivate_of_nad_ne {cfg : HostConfig} (h : cfg.nad ≠ 0) (atr : AtrParam) (br : Nat) (s : State) :
    cmdInitActivate cfg atr br s = hostError .badParam s := by
  simp [cmdInitActivate, initParamsOk_of_nad_ne h]

/-- Settles O58: the work of every input but an activation command freezes the configuration of the state with an empty
action list, which is that of `s`; and the operand check of `INIT_ACTIVATE` refuses a NAD. -/
theorem configurationIsFrozenInASession : Obligations.ConfigurationIsFrozenInASession := by
  unfold Obligations.ConfigurationIsFrozenInASession
  constructor
  · intro input d s t hinput hstep
    have hwork : (workOf input d { s with actions := [] }).outcome = .next t := (step_eq_outcome _).symm.trans hstep
    obtain ⟨hfixed, hsession, hrates⟩ := freezes_workOf hinput d { s with actions := [] } t hwork
    exact ⟨fixedRegisters_eq_iff.1 hfixed, fun hs => negotiatedRegisters_eq_iff.1 (hsession hs),
      fun hne => hrates (bitRates_ne_iff.2 hne)⟩
  · intro cfg atr br d s hnad
    have hstep : step (presenting (.cmd (.initActivate cfg atr br)) d s) =
        cmdInitActivate cfg atr br { s with actions := [] } := step_eq_outcome _
    rw [hstep, cmdInitActivate_of_nad_ne hnad]
    rfl

end Sys2Proof.Machine
end

section
/-! SUPPORT. The codec is a bijection between well-formed instructions and the frames that decode (30_encoding.md
sections 1 to 6, 40_codec.md R121 to R136): the body decoder of a kind undoes the encoding of each instruction of that
kind, and a body that decodes is the encoding of what it decodes to. -/

namespace Sys2Proof

/-! ### From an instruction to its frame and back -/

/-- What `encode` writes after CMD. -/
def Instr.body (i : Instr) : List Byte := (encode i).drop 3

theorem encode_eq_frameOf_kind (i : Instr) : encode i = frameOf i.kind i.body := by
  cases i <;> rfl

theorem body_length (i : Instr) : i.body.length = i.bodyLength := by
  rw [Instr.body, List.length_drop, encode_length, Nat.add_sub_cancel_left]

theorem decodeAtrReq_append {nfcid3 gb : List Byte} (hid : nfcid3.length = Config.nfcid3Len)
    (hgb : gb.length ≤ Config.gbMax) (did bs br pp : Byte) :
    decodeAtrReq (nfcid3 ++ did :: bs :: br :: pp :: gb) = .ok (.atrReq nfcid3 did bs br pp gb) := by
  have hlen : ¬ (nfcid3 ++ did :: bs :: br :: pp :: gb).length < 14 := by
    simp only [List.length_append, List.length_cons, hid, Config.nfcid3Len]
    omega
  rw [decodeAtrReq, if_neg hlen]
  simp [← hid, hgb]

theorem decodeAtrRes_append {nfcid3 gb : List Byte} (hid : nfcid3.length = Config.nfcid3Len)
    (hgb : gb.length ≤ Config.gbMax) (did bs br tob pp : Byte) :
    decodeAtrRes (nfcid3 ++ did :: bs :: br :: tob :: pp :: gb) = .ok (.atrRes nfcid3 did bs br tob pp gb) := by
  have hlen : ¬ (nfcid3 ++ did :: bs :: br :: tob :: pp :: gb).length < 15 := by
    simp only [List.length_append, List.length_cons, hid, Config.nfcid3Len]
    omega
  rw [decodeAtrRes, if_neg hlen]
  simp [← hid, hgb]

theorem shapeOk_atrReq {nfcid3 gb : List Byte} {did bs br pp : Byte} :
    (Instr.atrReq nfcid3 did bs br pp gb).shapeOk = true ↔
      nfcid3.length = Config.nfcid3Len ∧ gb.length ≤ Config.gbMax := by
  simp [Instr.shapeOk]

theorem shapeOk_atrRes {nfcid3 gb : List Byte} {did bs br tob pp : Byte} :
    (Instr.atrRes nfcid3 did bs br tob pp gb).shapeOk = true ↔
      nfcid3.length = Config.nfcid3Len ∧ gb.length ≤ Config.gbMax := by
  simp [Instr.shapeOk]

theorem decodeBody_body {i : Instr} (h : i.shapeOk = true) : decodeBody i.kind i.body = .ok i := by
  cases i with
  | atrReq nfcid3 did bs br pp gb =>
    obtain ⟨hid, hgb⟩ := shapeOk_atrReq.1 h
    exact decodeAtrReq_append hid hgb did bs br pp
  | atrRes nfcid3 did bs br tob pp gb =>
    obtain ⟨hid, hgb⟩ := shapeOk_atrRes.1 h
    exact decodeAtrRes_append hid hgb did bs br tob pp
  | pslReq did brs fsl => cases did <;> rfl
  | pslRes body => rfl
  | depReqI | depReqAck | depReqNack | depReqAtn | depReqRtox =>
    simp [Instr.body, Instr.kind, encode, decodeBody, depReqOf, Except.bind]
  | depResI | depResAck | depResNack | depResAtn | depResRtox =>
    simp [Instr.body, Instr.kind, encode, decodeBody, depResOf, Except.bind]
  | dslReq did trail | dslRes did trail | rlsReq did trail | rlsRes did trail =>
    simp [Instr.body, Instr.kind, encode, decodeBody, splitDid_toList h]

theorem shapeOk_of_wf {i : Instr} (h : i.wf = true) : i.shapeOk = true :=
  (Bool.and_eq_true_iff.1 h).2

theorem decode_encode {i : Instr} (h : i.wf = true) : decode (encode i) = .ok i := by
  have hbody : i.body.length ≤ 252 := body_length i ▸ bodyLength_le_of_wf h
  rw [encode_eq_frameOf_kind, decode_frameOf _ hbody, decodeBody_body (shapeOk_of_wf h)]

/-! ### From a frame to its instruction and back -/

/-- An instruction is the one a body of a kind spells: its frame is that body's, and its fixed lengths are right. -/
def SpelledBy (k : FrameKind) (body : List Byte) (i : Instr) : Prop :=
  encode i = frameOf k body ∧ i.shapeOk = true

theorem spelledBy_of_decodeAtrReq {body : List Byte} {i : Instr} (h : decodeAtrReq body = .ok i) :
    SpelledBy .atrReq body i := by
  unfold decodeAtrReq at h
  split at h
  · cases h
  · rename_i hlen
    split at h
    · rename_i did bs br pp gb hdrop
      split at h
      · rename_i hgb
        cases h
        have hbody := List.take_append_drop Config.nfcid3Len body
        have hid : (body.take Config.nfcid3Len).length = Config.nfcid3Len :=
          List.length_take_of_le (by simp only [Config.nfcid3Len]; omega)
        rw [hdrop] at hbody
        exact ⟨by rw [encode, hbody], shapeOk_atrReq.2 ⟨hid, hgb⟩⟩
      · cases h
    · cases h

theorem spelledBy_of_decodeAtrRes {body : List Byte} {i : Instr} (h : decodeAtrRes body = .ok i) :
    SpelledBy .atrRes body i := by
  unfold decodeAtrRes at h
  split at h
  · cases h
  · rename_i hlen
    split at h
    · rename_i did bs br tob pp gb hdrop
      split at h
      · rename_i hgb
        cases h
        have hbody := List.take_append_drop Config.nfcid3Len body
        have hid : (body.take Config.nfcid3Len).length = Config.nfcid3Len :=
          List.length_take_of_le (by simp only [Config.nfcid3Len]; omega)
        rw [hdrop] at hbody
        exact ⟨by rw [encode, hbody], shapeOk_atrRes.2 ⟨hid, hgb⟩⟩
      · cases h
    · cases h

theorem spelledBy_of_decodePslReq {body : List Byte} {i : Instr} (h : decodePslReq body = .ok i) :
    SpelledBy .pslReq body i := by
  unfold decodePslReq at h
  split at h
  · cases h; exact ⟨rfl, rfl⟩
  · cases h; exact ⟨rfl, rfl⟩
  · cases h

/-- A DEP body that decodes has a header, and its row is selected by the class of its PFB. -/
theorem splitDep_bind_eq_ok {row : DepParts → Except Reject Instr} {body : List Byte} {i : Instr}
    (h : (splitDep body).bind row = .ok i) : ∃ p, splitDep body = .ok p ∧ row p = .ok i := by
  cases hsplit : splitDep body with
  | error why => simp [hsplit, Except.bind] at h
  | ok p => exact ⟨p, rfl, by simpa [hsplit, Except.bind] using h⟩

theorem encode_of_depReqOf {p : DepParts} {i : Instr} (h : depReqOf p = .ok i) :
    encode i = frameOf .depReq (depBody p.kind (pfbPni p.pfb) p.did p.nad p.payload) ∧ i.shapeOk = true := by
  unfold depReqOf at h
  split at h
  case h_5 hkind =>
    split at h
    · cases h
    · rename_i hpayload
      cases h
      exact ⟨by rw [encode, hkind, hpayload], rfl⟩
  all_goals
    rename_i hkind
    cases h
    exact ⟨by rw [encode, hkind], rfl⟩

theorem encode_of_depResOf {p : DepParts} {i : Instr} (h : depResOf p = .ok i) :
    encode i = frameOf .depRes (depBody p.kind (pfbPni p.pfb) p.did p.nad p.payload) ∧ i.shapeOk = true := by
  unfold depResOf at h
  split at h
  case h_5 hkind =>
    split at h
    · cases h
    · rename_i hpayload
      cases h
      exact ⟨by rw [encode, hkind, hpayload], rfl⟩
  all_goals
    rename_i hkind
    cases h
    exact ⟨by rw [encode, hkind], rfl⟩

/-- The DID byte of a DSL or RLS body is absent only from an empty one (R136). -/
theorem splitDid_shape (body : List Byte) :
    ((splitDid body).1.isSome || (splitDid body).2.isEmpty) = true := by
  cases body <;> rfl

theorem spelledBy_of_decodeBody {k : FrameKind} {body : List Byte} {i : Instr} (h : decodeBody k body = .ok i) :
    SpelledBy k body i := by
  cases k with
  | atrReq => exact spelledBy_of_decodeAtrReq h
  | atrRes => exact spelledBy_of_decodeAtrRes h
  | pslReq => exact spelledBy_of_decodePslReq h
  | pslRes => cases h; exact ⟨rfl, rfl⟩
  | depReq =>
    obtain ⟨p, hsplit, hrow⟩ := splitDep_bind_eq_ok h
    obtain ⟨henc, hshape⟩ := encode_of_depReqOf hrow
    exact ⟨by rw [henc, (splitDep_eq_ok hsplit).2], hshape⟩
  | depRes =>
    obtain ⟨p, hsplit, hrow⟩ := splitDep_bind_eq_ok h
    obtain ⟨henc, hshape⟩ := encode_of_depResOf hrow
    exact ⟨by rw [henc, (splitDep_eq_ok hsplit).2], hshape⟩
  | dslReq | dslRes | rlsReq | rlsRes =>
    cases h
    exact ⟨by rw [encode, splitDid_append], splitDid_shape body⟩

/-- A frame with a legal LEN is one an instruction of its length can have. -/
theorem wf_of_encode {bytes : List Byte} {i : Instr} (hlen : lengthAgrees bytes = true) (henc : encode i = bytes)
    (hshape : i.shapeOk = true) : i.wf = true := by
  have hmax : bytes.length ≤ 255 := (Machine.lengthAgrees_iff.1 hlen).2.1
  have hcount : bytes.length = 3 + i.bodyLength := henc ▸ encode_length i
  have hle : Config.lenMin + i.bodyLength ≤ Config.lenMax := by
    simp only [Config.lenMin, Config.lenMax]
    omega
  simp [Instr.wf, Instr.lengthOk, hle, hshape]

/-- What decoding to an instruction takes: a right LEN, a known kind and a body that spells it. -/
theorem decode_eq_ok {bytes : List Byte} {i : Instr} (h : decode bytes = .ok i) :
    lengthAgrees bytes = true ∧ ∃ k, frameKind bytes = some k ∧ decodeBody k (bytes.drop 3) = .ok i := by
  unfold decode at h
  split at h
  · rename_i hlen
    split at h
    · cases h
    · rename_i k hkind
      exact ⟨hlen, k, hkind, h⟩
  · cases h

theorem encode_of_decode {bytes : List Byte} {i : Instr} (h : decode bytes = .ok i) :
    encode i = bytes ∧ i.wf = true := by
  obtain ⟨hlen, k, hkind, hbody⟩ := decode_eq_ok h
  obtain ⟨hspell, hshape⟩ := spelledBy_of_decodeBody hbody
  have henc : encode i = bytes := hspell.trans (frameOf_of_kind hlen hkind)
  exact ⟨henc, wf_of_encode hlen henc hshape⟩

/-- Settles O1: the frame of a well-formed instruction has the LEN it declares, and the body decoder of its kind undoes
its encoding. -/
theorem decodeOfEncodeIsTheInstruction : Obligations.DecodeOfEncodeIsTheInstruction := by
  unfold Obligations.DecodeOfEncodeIsTheInstruction
  exact fun _ h => decode_encode h

/-- Settles O2: each body decoder keeps every byte, and LEN, CMD_TYPE and CMD are those of the frame. -/
theorem encodeOfDecodeIsTheFrame : Obligations.EncodeOfDecodeIsTheFrame := by
  unfold Obligations.EncodeOfDecodeIsTheFrame
  exact fun _ _ h => encode_of_decode h

end Sys2Proof
end

section
/-! SUPPORT. Words of the encoding tables, the Malformed verdict, the bits of the opcode map, and the DEP frames the
engine builds (30_encoding.md sections 7 and 10, 40_codec.md R132). -/

namespace Sys2Proof

/-- Settles O3: the decoder run on each word. -/
theorem wordsDecodeToTheirRows : Obligations.WordsDecodeToTheirRows := by
  unfold Obligations.WordsDecodeToTheirRows
  decide

/-! ### The opcode map (R114) -/

/-- The class part of a PFB, apart from the header and PNI bits below it (R85). -/
theorem pfbByte_class (k : DepKind) (n d : Bool) (p : Pni) : pfbByte k n d p &&& 0xF0 = classNibble k ++ (0 : BitVec 4) := by
  have key : ∀ (c : BitVec 4) (n d : Bool) (p : Pni),
      (c ++ BitVec.ofBool n ++ BitVec.ofBool d ++ p : Byte) &&& 0xF0 = c ++ (0 : BitVec 4) := by decide
  exact key (classNibble k) n d p

/-- An I-PDU has the three high bits clear and its MI bit below them. -/
theorem pfbByte_info (mi n d : Bool) (p : Pni) :
    pfbByte (.info mi) n d p &&& 0xE0 = 0x00 ∧ (pfbByte (.info mi) n d p).getLsbD 4 = mi := by
  revert mi n d p
  decide

/-- The bits of a PFB that every class shares: PNI, NAD, DID. -/
theorem pfbByte_fields (k : DepKind) (p : Pni) (did nad : Option Byte) :
    (pfbByte k nad.isSome did.isSome p).extractLsb' 0 2 = p ∧
      (pfbByte k nad.isSome did.isSome p).getLsbD 3 = nad.isSome ∧
      (pfbByte k nad.isSome did.isSome p).getLsbD 2 = did.isSome :=
  ⟨pfbPni_pfbByte k _ _ p, pfbHasNad_pfbByte k _ _ p, pfbHasDid_pfbByte k _ _ p⟩

/-- Settles O5: CMD_TYPE and CMD are those of the frame's kind, and the PFB is put together from its class and fields. -/
theorem encodingsMatchTheOpcodeMap : Obligations.EncodingsMatchTheOpcodeMap := by
  unfold Obligations.EncodingsMatchTheOpcodeMap
  intro i _
  cases i with
  | atrReq | atrRes | pslReq | pslRes | dslReq | dslRes | rlsReq | rlsRes => exact ⟨rfl, rfl⟩
  | depReqI mi pni did nad | depResI mi pni did nad =>
    obtain ⟨hclass, hmi⟩ := pfbByte_info mi nad.isSome did.isSome pni
    exact ⟨rfl, rfl, hclass, hmi, pfbByte_fields _ pni did nad⟩
  | depReqAck pni did nad | depReqNack pni did nad | depReqAtn pni did nad | depReqRtox pni did nad
  | depResAck pni did nad | depResNack pni did nad | depResAtn pni did nad | depResRtox pni did nad =>
    exact ⟨rfl, rfl, pfbByte_class _ _ _ pni, pfbByte_fields _ pni did nad⟩

end Sys2Proof

namespace Sys2Proof.Machine

variable {s : State}

/-! ### Malformed frames (R105, 60_exceptions.md R324) -/

theorem decode_eq_malformed_iff {bytes : List Byte} :
    decode bytes = .error .malformed ↔ ¬ lengthAgrees bytes = true :=
  ⟨fun h hlen => decode_ne_malformed hlen h, decode_of_not_lengthAgrees⟩

theorem receiveFrame_of_error {bytes : List Byte} {why : Reject} (h : decode bytes = .error why) (s : State) :
    (receiveFrame bytes s).outcome = badFrame bytes why s := by
  rw [receiveFrame, h]
  rfl

theorem receiveFrame_of_ok {bytes : List Byte} {i : Instr} (h : decode bytes = .ok i) (s : State) :
    (receiveFrame bytes s).outcome = exec i s := by
  rw [receiveFrame, h]
  rfl

/-- A Malformed frame does what a transmission error of class Framing does, at either level of `deact_pending`. -/
theorem receiveFrame_of_malformed {bytes : List Byte} (h : decode bytes = .error .malformed) (d : Bool) (s : State) :
    (receiveFrame bytes s).outcome = rfError (.transmission .framing) bytes.length d s := by
  rw [receiveFrame_of_error h, badFrame, if_pos rfl]
  exact rfError_level_irrelevant (by simp) _ _ _

/-- Settles O4: Malformed is the LEN check's verdict, and its step is that of the RF error. -/
theorem malformedFramesAreTransmissionErrors : Obligations.MalformedFramesAreTransmissionErrors := by
  unfold Obligations.MalformedFramesAreTransmissionErrors
  constructor
  · intro bytes
    rw [decode_eq_malformed_iff, lengthAgrees_iff]
    omega
  · intro bytes d s h
    rw [step_presenting_ok, receiveFrame_of_malformed h d, step_presenting_err]

/-! ### DEP frames as the engine builds them (R132) -/

/-- An Initiator builds the frame of a DEP_REQ row; which one, the class says. -/
theorem encodeDep_of_initiator (h : s.role = .initiator) (k : DepKind) (payload : List Byte) :
    encodeDep k payload s =
      frameOf .depReq (depBody k (sentPni k s) (optByte s.did) (optByte s.nad) payload) := by
  rw [encodeDep, h]
  rfl

/-- A Target builds the frame of a DEP_RES row. -/
theorem encodeDep_of_target (h : s.role = .target) (k : DepKind) (payload : List Byte) :
    encodeDep k payload s =
      frameOf .depRes (depBody k (sentPni k s) (optByte s.did) (optByte s.nad) payload) := by
  rw [encodeDep, h]
  rfl

theorem decode_encodeDep {k : DepKind} {payload : List Byte} {i : Instr} (henc : encodeDep k payload s = encode i)
    (hshape : i.shapeOk = true) (hlen : payload.length ≤ maxInf s) : decode (encodeDep k payload s) = .ok i := by
  have hwf : i.wf = true := wf_of_encode (lengthAgrees_encodeDep k hlen) henc.symm hshape
  rw [henc, decode_encode hwf]

/-- Settles O6: at either role each class builds the encoding of its row, short enough for its LEN byte. -/
theorem builtDepFramesDecodeToTheirPdu : Obligations.BuiltDepFramesDecodeToTheirPdu := by
  unfold Obligations.BuiltDepFramesDecodeToTheirPdu
  intro s
  have hnone : ([] : List Byte).length ≤ maxInf s := Nat.zero_le _
  constructor
  · intro hr
    have henc := encodeDep_of_initiator hr
    exact ⟨fun mi inf hlen => decode_encodeDep (henc (.info mi) inf) rfl hlen,
      decode_encodeDep (henc .ack []) rfl hnone, decode_encodeDep (henc .nack []) rfl hnone,
      decode_encodeDep (henc .atn []) rfl hnone,
      fun v => decode_encodeDep (henc .rtox [v]) rfl (length_singleton_le_maxInf v s)⟩
  · intro hr
    have henc := encodeDep_of_target hr
    exact ⟨fun mi inf hlen => decode_encodeDep (henc (.info mi) inf) rfl hlen,
      decode_encodeDep (henc .ack []) rfl hnone, decode_encodeDep (henc .nack []) rfl hnone,
      decode_encodeDep (henc .atn []) rfl hnone,
      fun v => decode_encodeDep (henc .rtox [v]) rfl (length_singleton_le_maxInf v s)⟩

end Sys2Proof.Machine
end

section
/-! SUPPORT. The round-trip law of chaining (20_memory.md R65, 41_sequencing_chaining_counters.md R155 to R157): what it
is to split a payload into blocks, that `next_block` does it, and that appending the blocks undoes it. -/

namespace Sys2Proof.Machine

/-! ### Splitting a payload -/

/-- `blocks` make up `payload` in order, each of at most `m` bytes, and as many as R156 counts: an empty payload has one
empty block. -/
structure Splits (m : Nat) (payload : List Byte) (blocks : List (List Byte)) : Prop where
  flatten : blocks.flatten = payload
  bounded : ∀ b ∈ blocks, b.length ≤ m
  count : blocks.length = max 1 ((payload.length + m - 1) / m)

/-- What fits one block is one block. -/
theorem Splits.single {m : Nat} {payload : List Byte} (hm : 0 < m) (h : payload.length ≤ m) :
    Splits m payload [payload] where
  flatten := by simp
  bounded := by simpa using h
  count := by
    have hlt : (payload.length + m - 1) / m < 2 := Nat.div_lt_of_lt_mul (by omega)
    rw [List.length_singleton]
    omega

/-- A payload longer than a block is a full block and what is left. -/
theorem Splits.cons {m : Nat} {payload : List Byte} {blocks : List (List Byte)} (hm : 0 < m)
    (hlong : m < payload.length) (h : Splits m (payload.drop m) blocks) :
    Splits m payload (payload.take m :: blocks) where
  flatten := by rw [List.flatten_cons, h.flatten, List.take_append_drop]
  bounded := List.forall_mem_cons.2 ⟨List.length_take_le _ _, h.bounded⟩
  count := by
    have hrest : payload.length - m + m - 1 = payload.length - 1 := by omega
    have hall : payload.length + m - 1 = payload.length - 1 + m := by omega
    have hone : 1 ≤ (payload.length - 1) / m := Nat.div_pos (by omega) hm
    rw [List.length_cons, h.count, List.length_drop, hrest, hall, Nat.add_div_right _ hm]
    omega

/-! ### The outbound buffer -/

/-- `tx_buf` holds a payload from offset 0, and `tx_off` lies in it (10_state.md R39). -/
structure HoldsPayload (data : List Byte) (s : State) : Prop where
  length : s.txLen = data.length
  offset : s.txOff ≤ data.length
  bytes : ∀ j, j < data.length → s.txBuf.read j = data[j]?

theorem holdsPayload_loadTxBuf (data : List Byte) (s : State) : HoldsPayload data (loadTxBuf data s) where
  length := rfl
  offset := Nat.zero_le _
  bytes := fun j hj => by simpa using Memory.read_writeBytes_inside data s.txBuf 0 j hj

/-- From a buffer that holds a payload `next_block` takes what is left of it, up to `max_inf` (R155). -/
theorem nextBlock_of_holdsPayload {data : List Byte} {s : State} (h : HoldsPayload data s) :
    nextBlock s = some ((data.drop s.txOff).take (maxInf s), decide (s.txOff + nextBlockLen s < s.txLen),
      { s with txOff := s.txOff + nextBlockLen s }) := by
  have hoff := h.offset
  have hlen := h.length
  have hblock : nextBlockLen s = ((data.drop s.txOff).take (maxInf s)).length := by
    simp [nextBlockLen, hlen]
  refine nextBlock_eq_some.2 ⟨Memory.readBytes_eq_some.2 ⟨hblock.symm, fun j hj => ?_⟩, rfl, rfl⟩
  have hmax : j < maxInf s ∧ s.txOff + j < data.length := by
    simp only [nextBlockLen] at hj
    omega
  rw [h.bytes _ hmax.2, List.getElem?_take_of_lt hmax.1, List.getElem?_drop]

/-- The blocks of an exchange split what is left of the payload. -/
theorem outboundBlocks_splits {data : List Byte} {fuel : Nat} {s : State} (h : HoldsPayload data s)
    (hfuel : data.length - s.txOff < fuel) :
    ∃ blocks, outboundBlocks fuel s = some blocks ∧ Splits (maxInf s) (data.drop s.txOff) blocks := by
  have hm : 0 < maxInf s := Nat.lt_of_lt_of_le (by omega) (maxInf_bounds s).1
  induction fuel generalizing s with
  | zero => omega
  | succ fuel ih =>
    have hlen := h.length
    rw [outboundBlocks, nextBlock_of_holdsPayload h]
    by_cases hmore : s.txOff + nextBlockLen s < s.txLen
    · have hfull : nextBlockLen s = maxInf s := by
        simp only [nextBlockLen] at hmore ⊢
        omega
      rw [hfull] at hmore ⊢
      obtain ⟨blocks, hblocks, hsplit⟩ := ih (s := { s with txOff := s.txOff + maxInf s })
        ⟨h.length, by simp only; omega, h.bytes⟩ (by simp only; omega) hm
      refine ⟨(data.drop s.txOff).take (maxInf s) :: blocks, by simp [hmore, hblocks],
        Splits.cons hm (by rw [List.length_drop]; omega) ?_⟩
      rw [List.drop_drop]
      exact hsplit
    · have hlast : (data.drop s.txOff).length ≤ maxInf s := by
        simp only [nextBlockLen] at hmore
        rw [List.length_drop]
        omega
      exact ⟨_, by simp [hmore, List.take_of_length_le hlast], Splits.single hm hlast⟩

/-! ### The accumulator -/

theorem Memory.writeBytes_append (bs cs : List Byte) (m : Memory) (off : Nat) :
    m.writeBytes off (bs ++ cs) = (m.writeBytes off bs).writeBytes (off + bs.length) cs := by
  induction bs generalizing m off with
  | nil => rfl
  | cons b bs ih =>
    rw [List.cons_append, Memory.writeBytes, ih, Memory.writeBytes, List.length_cons, Nat.add_assoc, Nat.add_comm 1]

theorem append_append (bs cs : List Byte) (r : State) : append cs (append bs r) = append (bs ++ cs) r := by
  simp only [append, Memory.writeBytes_append, List.length_append, Nat.add_assoc]

/-- Blocks appended one by one are the payload appended at once (R157). -/
theorem foldl_append (blocks : List (List Byte)) (r : State) :
    blocks.foldl (fun r b => append b r) r = append blocks.flatten r := by
  induction blocks generalizing r with
  | nil => rfl
  | cons b blocks ih => rw [List.foldl_cons, ih, append_append, List.flatten_cons]

/-- Settles O11: the loaded buffer holds the payload, its blocks split it, and appending them writes it at offset 0. -/
theorem chainingReconstructsThePayload : Obligations.ChainingReconstructsThePayload := by
  unfold Obligations.ChainingReconstructsThePayload
  intro data s
  have hload := holdsPayload_loadTxBuf data s
  obtain ⟨blocks, hblocks, hsplit⟩ := outboundBlocks_splits (fuel := data.length + 1) hload (by simp)
  have hflatten : blocks.flatten = data := hsplit.flatten
  refine ⟨hload.bytes, blocks, hblocks, hflatten, hsplit.bounded, hsplit.count, fun r hr => ?_⟩
  have hread := Memory.readBytes_writeBytes r.rxAcc 0 data
  simp [foldl_append, hflatten, hr, hread]

end Sys2Proof.Machine
end

section
/-! SUPPORT. What a step can do, once: every answer of the machine is one of the moves below, with the guard under which
it is taken. Statements about all steps are inductions on them. -/

namespace Sys2Proof.Machine

/-! ### The moves -/

/-- The registers an accepted ATR_REQ writes (42_activation.md R203). -/
def acceptAtrReq (nfcid3 : List Byte) (did bs br pp : Byte) (gb : List Byte) (s : State) : State :=
  { s with
    nfcid3Peer := nfcid3
    gbPeer := gb
    did := did
    peerBs := lowNibble bs
    peerBr := lowNibble br
    peerLr := ppLr pp
    peerNadUsed := ppNad pp
    pni := 0
    st := .tSendAtrRes }

theorem execAtrReq_of_tWaitAtr {s : State} (h : s.st = .tWaitAtr) (nfcid3 : List Byte) (did bs br pp : Byte)
    (gb : List Byte) :
    execAtrReq nfcid3 did bs br pp gb s =
      if did.toNat ≤ s.params.didMax then ret .inProgress (acceptAtrReq nfcid3 did bs br pp gb s)
      else raise .protocolError s :=
  if_pos h

/-- The sends of an activation or deactivation request: not recorded (R182, R191, R302). -/
def launchTarget : St → Option St
  | .iSendAtr => some .iAwaitAtrRes
  | .iSendPsl => some .iAwaitPslRes
  | .iSendDsl => some .iAwaitDslRes
  | .iSendRls => some .iAwaitRlsRes
  | _ => none

/-- The activation request a retry sends again (R184, R192). -/
def retryTarget : St → Option St
  | .iAwaitAtrRes => some .iSendAtr
  | .iAwaitPslRes => some .iSendPsl
  | _ => none

/-- What inputs other than commands can lead to, whatever frame came: terminal entry, re-arming, a sending state's
transmission, a retry, a PDU sent without moving on. -/
inductive Move : State → Result → Prop
  | raise {s : State} (e : Err) : Move s (raise e s)
  | ignore {s : State} : Move s (ignore s)
  | rest {s : State} : Move s (ret (restStatus s.st) s)
  | counted {s : State} {r : Result} (c : Counter) (hlt : counterOf c s < ceilingOf c s.params)
      (h : Move (bump c s) r) : Move s r
  | launch {s : State} {st' : St} (bytes : List Byte) (d : Deadline) (h : launchTarget s.st = some st') :
      Move s (ret .inProgress { emit (.rfTxRx bytes d) s with st := st' })
  | sendAtrRes {s : State} (hst : s.st = .tSendAtrRes) : Move s (sendAtrRes s)
  | stuck {s : State} (hst : s.st = .iDepTx ∨ s.st = .tDepTx) (h : nextBlock s = none) : Move s (.fault .unwrittenTxBufByte)
  | blockInitiator {s : State} {inf : List Byte} (hst : s.st = .iDepTx) (hlen : inf.length ≤ maxInf s) (mi : Bool) :
      Move s (ret .inProgress
        { sendDep (.info mi) inf (depDeadline s)
            { s with txOff := s.txOff + nextBlockLen s, txChaining := mi } with st := .iDepRx })
  | blockTarget {s : State} {inf : List Byte} (hst : s.st = .tDepTx) (hlen : inf.length ≤ maxInf s) (mi : Bool) :
      Move s (ret .inProgress
        { advancePni (sendDep (.info mi) inf .noDeadline
            { s with txOff := s.txOff + nextBlockLen s, txChaining := mi }) with st := .tDepRx })
  | retry {s : State} {st' : St} (h : retryTarget s.st = some st') : Move s (ret .inProgress { s with st := st' })
  | send {s : State} {k : DepKind} {payload : List Byte} (d : Deadline) (hlen : payload.length ≤ 1)
      (hk : k ≠ .rtox ∨ s.st = .iDepRx) : Move s (ret .inProgress (sendDep k payload d s))
  | rearm {s : State} : Move s (ret .inProgress (emit (.rfRx s.lastDeadline) s))
  | retransmit {s : State} : Move s (ret .inProgress (retransmit s))
  | requestTime {s : State} (hst : s.st = .tRespPending) :
      Move s (ret .inProgress
        { sendDep .rtox [rtoxReqValue s] .noDeadline s with st := .tAwaitRtoxRes })

/-- What a received frame can lead to: a move of no frame in particular, or the effect of the frame where its state takes
it (42_activation.md, 43_dep_initiator.md sections 3 to 5, 44_dep_target.md sections 2 to 4, 45_deactivation.md). -/
inductive FrameMove : Instr → State → Result → Prop
  | move {i : Instr} {s : State} {r : Result} (h : Move s r) : FrameMove i s r
  | queue (i : Instr) {s : State} (hst : s.st = .tWaitActCompletion) : FrameMove i s (queueRequest (encode i) s)
  | atrReq {nfcid3 gb : List Byte} {did bs br pp : Byte} {s : State} (hst : s.st = .tWaitAtr)
      (hdid : did.toNat ≤ s.params.didMax) :
      FrameMove (.atrReq nfcid3 did bs br pp gb) s (ret .inProgress (acceptAtrReq nfcid3 did bs br pp gb s))
  | atrResPsl {nfcid3 gb : List Byte} {did bs br tob pp : Byte} {s : State} (hst : s.st = .iAwaitAtrRes) :
      FrameMove (.atrRes nfcid3 did bs br tob pp gb) s
        (ret .inProgress { acceptAtrRes nfcid3 bs br tob pp gb s with st := .iSendPsl })
  | atrResDone {nfcid3 gb : List Byte} {did bs br tob pp : Byte} {s : State} (hst : s.st = .iAwaitAtrRes) :
      FrameMove (.atrRes nfcid3 did bs br tob pp gb) s
        (ret .done { acceptAtrRes nfcid3 bs br tob pp gb s with cfgValid := true, st := .iActive })
  | pslReq {did : Option Byte} {brs fsl : Byte} {s : State} (hst : s.st = .tWaitActCompletion) :
      FrameMove (.pslReq did brs fsl) s (ret .done { acceptPslReq brs fsl s with cfgValid := true, st := .tDepRx })
  | pslRes {body : List Byte} {s : State} (hst : s.st = .iAwaitPslRes) :
      FrameMove (.pslRes body) s (ret .done { acceptPslRes s with cfgValid := true, st := .iActive })
  | deselect {i : Instr} {s : State} (htakes : takesDeactReq s.st = true) :
      FrameMove i s (ret .deselected (closeTarget .dslRes .tSleep s))
  | release {i : Instr} {s : State} (htakes : takesDeactReq s.st = true) :
      FrameMove i s (ret .released (closeTarget .rlsRes .idle s))
  | closeInitiator {i : Instr} {s : State} (hst : s.st = .iAwaitDslRes ∨ s.st = .iAwaitRlsRes) :
      FrameMove i s (closeInitiator s)
  | ackNext {i : Instr} {s : State} (hst : s.st = .iDepRx) :
      FrameMove i s (ret .inProgress { clearCounters (advancePni s) with st := .iDepTx })
  | ackLast {i : Instr} {s : State} (hst : s.st = .iDepRx) :
      FrameMove i s (ret .done { clearCounters (advancePni s) with st := .iActive })
  | responseChained {mi : Bool} {pni : Pni} {did nad : Option Byte} {inf : List Byte} {s : State} (d : Deadline)
      (hst : s.st = .iDepRx) (hcap : s.rxLen + inf.length ≤ s.params.rxCap) :
      FrameMove (.depResI mi pni did nad inf) s
        (ret .chainingContinue
          (sendDep .ack [] d { acceptBlockInitiator inf s with rxChaining := true }))
  | responseFinal {mi : Bool} {pni : Pni} {did nad : Option Byte} {inf : List Byte} {s : State}
      (hst : s.st = .iDepRx) (hcap : s.rxLen + inf.length ≤ s.params.rxCap) :
      FrameMove (.depResI mi pni did nad inf) s
        (ret .done { acceptBlockInitiator inf s with rxChaining := false, st := .iActive })
  | requestChained {mi : Bool} {pni : Pni} {did nad : Option Byte} {inf : List Byte} {s : State}
      (hst : s.st = .tDepRx) (hcap : rxBase s + inf.length ≤ s.params.rxCap) :
      FrameMove (.depReqI mi pni did nad inf) s
        (ret .chainingContinue
          (advancePni (sendDep .ack [] .noDeadline { acceptBlockTarget inf s with rxChaining := true })))
  | requestFinal {mi : Bool} {pni : Pni} {did nad : Option Byte} {inf : List Byte} {s : State}
      (hst : s.st = .tDepRx) (hcap : rxBase s + inf.length ≤ s.params.rxCap) :
      FrameMove (.depReqI mi pni did nad inf) s
        (ret .done
          { emit (.timerStart (rtoxDelay s.wt)) (acceptBlockTarget inf s) with
            rxChaining := false, st := .tRespPending })
  | nextDue {i : Instr} {s : State} (hst : s.st = .tDepRx) :
      FrameMove i s (ret .inProgress { clearCounters s with st := .tDepTx })
  | grantPending {i : Instr} {s : State} (hst : s.st = .tAwaitRtoxRes) :
      FrameMove i s (ret .inProgress { s with txPending := false, st := .tDepTx })
  | grantWaiting {i : Instr} {s : State} (hst : s.st = .tAwaitRtoxRes) (htx : s.txPending = false) :
      FrameMove i s (ret .idle { emit (.timerStart (rtoxDelay s.wt)) s with st := .tRespPending })

/-- What a host command does where it is taken, and its refusal (R180, R200, R220, R280, R300, R301, R330). -/
inductive CommandMove : State → Result → Prop
  | refuse {s : State} (e : Err) : CommandMove s (hostError e s)
  | initActivate {cfg : HostConfig} {atr : AtrParam} {br : Nat} {s : State}
      (hok : initParamsOk s.params cfg atr br = true) : CommandMove s (ret .inProgress (loadInitiator cfg atr br s))
  | targListen {cfg : HostConfig} {l : ListenParam} {s : State} (hok : targParamsOk cfg l = true) :
      CommandMove s (ret .inProgress (emit (.rfRx .noDeadline) (loadTarget cfg l s)))
  | startInitiator {data : List Byte} {s : State} (hst : s.st = .iActive) (hok : exchangeOk data s = true) :
      CommandMove s (ret .inProgress (startExchangeInitiator data s))
  | startTarget {data : List Byte} {s : State} (hst : s.st = .tRespPending) (hok : exchangeOk data s = true) :
      CommandMove s (ret .inProgress (startExchangeTarget data s))
  | deferTarget {data : List Byte} {s : State} (hst : s.st = .tAwaitRtoxRes) (hok : exchangeOk data s = true) :
      CommandMove s (ret .inProgress (deferExchangeTarget data s))
  | deactivate {st' : St} {s : State} (hst : s.st = .iActive) (hst' : st' = .iSendDsl ∨ st' = .iSendRls) :
      CommandMove s (ret .inProgress { s with st := st' })

/-- What a step does, on the state with its input consumed. A frame that is run has been decoded, so it is well formed;
one that is queued without being decoded has a right LEN. -/
inductive StepMove : State → Result → Prop
  | move {s : State} {r : Result} (h : Move s r) : StepMove s r
  | frame {i : Instr} {s : State} {r : Result} (hwf : i.wf = true) (h : FrameMove i s r) : StepMove s r
  | queue {bytes : List Byte} {s : State} (hst : s.st = .tWaitActCompletion) (hlen : lengthAgrees bytes = true) :
      StepMove s (queueRequest bytes s)
  | dequeue {s : State} {r : Result} (h : StepMove { s with pendingReq := [] } r) : StepMove s r
  | command {s : State} {r : Result} (h : CommandMove s r) : StepMove s r

variable {s : State}

/-! ### Inputs that bring no frame -/

theorem move_withRetry {c : Counter} {e : Err} {allowed : State → Result}
    (h : Move (bump c s) (allowed (bump c s))) : Move s (withRetry c (raise e) allowed s) := by
  rcases withRetry_cases c (raise e) allowed s with ⟨hlt, heq⟩ | ⟨-, heq⟩ <;> rw [heq]
  · exact .counted c hlt h
  · exact .raise e

theorem move_sendBlockInitiator (hst : s.st = .iDepTx) : Move s (sendBlockInitiator s) := by
  unfold sendBlockInitiator
  split
  · exact .stuck (.inl hst) ‹_›
  · rename_i inf mi s1 hnext
    have hlen := length_le_maxInf_of_nextBlock hnext
    obtain ⟨-, -, rfl⟩ := nextBlock_eq_some.1 hnext
    exact .blockInitiator hst hlen mi

theorem move_sendBlockTarget (hst : s.st = .tDepTx) : Move s (sendBlockTarget s) := by
  unfold sendBlockTarget
  split
  · exact .stuck (.inr hst) ‹_›
  · rename_i inf mi s1 hnext
    have hlen := length_le_maxInf_of_nextBlock hnext
    obtain ⟨-, -, rfl⟩ := nextBlock_eq_some.1 hnext
    exact .blockTarget hst hlen mi

theorem move_tick (s : State) : Move s (tick s) := by
  rcases tick_cases s with ⟨hst, ht⟩ | ⟨hst, ht⟩ | ⟨hst, ht⟩ | ⟨hst, ht⟩ | ⟨hst, ht⟩ | ⟨hst, ht⟩ | ⟨hst, ht⟩ | ⟨-, ht⟩ <;>
    rw [ht]
  · exact .launch _ _ (by rw [hst]; rfl)
  · exact .launch _ _ (by rw [hst]; rfl)
  · exact move_sendBlockInitiator hst
  · exact .launch _ _ (by rw [hst]; rfl)
  · exact .launch _ _ (by rw [hst]; rfl)
  · exact .sendAtrRes hst
  · exact move_sendBlockTarget hst
  · exact .rest

theorem move_unexpected (s : State) : Move s (unexpected s) := by
  rcases unexpected_cases s with ⟨-, hu⟩ | ⟨-, -, hu⟩ | ⟨-, -, -, hu⟩ <;> rw [hu]
  · exact move_tick s
  · exact .raise _
  · exact .ignore

theorem move_sendNack (s : State) : Move s (sendNack s) :=
  move_withRetry (.send _ (Nat.zero_le _) (.inl (by simp)))

theorem move_sendAtn (s : State) : Move s (sendAtn s) := by
  unfold sendAtn
  split
  · exact move_withRetry (.send _ (Nat.zero_le _) (.inl (by simp)))
  · exact .raise _

theorem move_recoverTransmission (n : Nat) (s : State) : Move s (recoverTransmission n s) := by
  unfold recoverTransmission
  split
  · exact .rearm
  · exact move_sendNack s

theorem move_recoverTimeout (d : Bool) (s : State) : Move s (recoverTimeout d s) := by
  unfold recoverTimeout
  split
  · exact .raise _
  · refine move_withRetry ?_
    split
    · exact move_sendNack _
    · exact move_sendAtn _

theorem move_targetRfError (e : RfErr) (s : State) : Move s (targetRfError e s) := by
  cases e with
  | linkLoss => exact .raise _
  | timeout => exact .ignore
  | transmission k => exact .ignore

theorem move_rfError (e : RfErr) (n : Nat) (d : Bool) (s : State) : Move s (rfError e n d s) := by
  rcases rfError_cases e n d s with ⟨-, he⟩ | ⟨-, -, he⟩ |
    ⟨-, -, ⟨k, -, hst, he⟩ | ⟨k, -, hst, he⟩ | ⟨k, -, -, he⟩ | ⟨-, -, he⟩ | he⟩ <;> rw [he]
  · exact move_tick s
  · exact move_targetRfError e s
  · exact move_withRetry (.retry (by rw [bump_st, hst]; rfl))
  · exact move_withRetry (.retry (by rw [bump_st, hst]; rfl))
  · exact move_recoverTransmission n s
  · exact move_recoverTimeout d s
  · exact .raise _

theorem move_timerExpiry (hst : s.st = .tRespPending) : Move s (timerExpiry s) := by
  unfold timerExpiry
  split
  · exact move_withRetry (.requestTime (by rw [bump_st, hst]))
  · exact .raise _

/-! ### Retransmission -/

theorem move_boundedRetransmit (s : State) : Move s (boundedRetransmit s) := by
  unfold boundedRetransmit
  split
  · exact move_withRetry .retransmit
  · exact .raise _

theorem move_retransmitOrIgnore (s : State) : Move s (retransmitOrIgnore s) := by
  unfold retransmitOrIgnore
  split
  · exact .retransmit
  · exact .ignore

theorem move_repeatAfterAtn (pni : Pni) (s : State) : Move s (repeatAfterAtn pni s) := by
  unfold repeatAfterAtn
  split
  · exact move_retransmitOrIgnore s
  · exact .ignore

/-! ### Frames -/

variable {i : Instr}

theorem frameMove_unexpected (i : Instr) (s : State) : FrameMove i s (unexpected s) := .move (move_unexpected s)

/-- A DEP_RES: past its header in `I_DEP_RX`, else a ProtocolError or unexpected. -/
theorem frameMove_onDepRes {did nad : Option Byte} {body : State → Result}
    (h : s.st = .iDepRx → FrameMove i s (body s)) : FrameMove i s (onDepRes did nad body s) := by
  unfold onDepRes
  split_ifs with hst
  · exact h hst
  · exact .move (.raise _)
  · exact frameMove_unexpected i s

theorem frameMove_initiatorInfo (hst : s.st = .iDepRx) (mi : Bool) (pni : Pni) (did nad : Option Byte)
    (inf : List Byte) : FrameMove (.depResI mi pni did nad inf) s (initiatorInfo mi pni inf s) := by
  unfold initiatorInfo
  split_ifs with _ _ hcap
  · exact .move (.raise _)
  · exact .move (.raise _)
  · exact .move (.raise _)
  · exact .responseChained _ hst (Nat.not_lt.1 hcap)
  · exact .responseFinal hst (Nat.not_lt.1 hcap)

theorem frameMove_initiatorAck (hst : s.st = .iDepRx) (pni : Pni) : FrameMove i s (initiatorAck pni s) := by
  unfold initiatorAck
  split_ifs
  · exact .ackNext hst
  · exact .ackLast hst
  · exact .move (move_boundedRetransmit s)
  · exact .move (.raise _)

theorem move_initiatorAtn (s : State) : Move s (initiatorAtn s) := by
  unfold initiatorAtn
  split
  · exact move_boundedRetransmit s
  · exact .raise _

theorem move_initiatorRtox (hst : s.st = .iDepRx) (v : Byte) : Move s (initiatorRtox v s) := by
  unfold initiatorRtox
  split_ifs
  · exact .raise _
  · exact .raise _
  · exact move_withRetry (.send _ (by simp) (.inr (by rw [bump_st, hst])))

/-- A DEP_REQ: queued, or past its header in one of the two data states, else ignored or unexpected. -/
theorem frameMove_onDepReq {did nad : Option Byte} {inDepRx inAwaitRtox : State → Result}
    (hrx : s.st = .tDepRx → FrameMove i s (inDepRx s)) (hrtox : s.st = .tAwaitRtoxRes → FrameMove i s (inAwaitRtox s)) :
    FrameMove i s (onDepReq (encode i) did nad inDepRx inAwaitRtox s) := by
  unfold onDepReq
  split_ifs with hact hst _ hst
  · exact .queue i hact
  · exact hrx hst
  · exact .move .ignore
  · exact hrtox hst
  · exact .move .ignore
  · exact frameMove_unexpected i s

theorem frameMove_targetInfo (hst : s.st = .tDepRx) (mi : Bool) (pni : Pni) (did nad : Option Byte)
    (inf : List Byte) : FrameMove (.depReqI mi pni did nad inf) s (targetInfo mi pni inf s) := by
  unfold targetInfo
  split_ifs with _ _ hcap
  · exact .move .ignore
  · exact .move (.raise _)
  · exact .requestChained hst (Nat.not_lt.1 hcap)
  · exact .requestFinal hst (Nat.not_lt.1 hcap)
  · exact .move (move_repeatAfterAtn pni s)

theorem move_targetInfoAwaitingRtox (pni : Pni) (s : State) : Move s (targetInfoAwaitingRtox pni s) := by
  unfold targetInfoAwaitingRtox
  split
  · exact move_retransmitOrIgnore s
  · exact .ignore

theorem frameMove_targetAck (hst : s.st = .tDepRx) (pni : Pni) : FrameMove i s (targetAck pni s) := by
  unfold targetAck
  split
  · exact .nextDue hst
  · exact .move (move_repeatAfterAtn pni s)

theorem move_targetAtn (s : State) : Move s (targetAtn s) := by
  unfold targetAtn
  split
  · exact .send _ (Nat.zero_le _) (.inl (by simp))
  · exact .ignore

theorem frameMove_targetRtox (hst : s.st = .tAwaitRtoxRes) (v : Byte) : FrameMove i s (targetRtox v s) := by
  unfold targetRtox
  split_ifs with _ htx
  · exact .grantPending hst
  · exact .grantWaiting hst (Bool.eq_false_iff.2 htx)
  · exact .move .ignore

theorem frameMove_execAtrReq (nfcid3 : List Byte) (did bs br pp : Byte) (gb : List Byte) (s : State) :
    FrameMove (.atrReq nfcid3 did bs br pp gb) s (execAtrReq nfcid3 did bs br pp gb s) := by
  unfold execAtrReq
  split_ifs with hst hdid
  · exact .atrReq hst hdid
  · exact .move (.raise _)
  · exact frameMove_unexpected _ s

theorem frameMove_execAtrRes (nfcid3 : List Byte) (did bs br tob pp : Byte) (gb : List Byte) (s : State) :
    FrameMove (.atrRes nfcid3 did bs br tob pp gb) s (execAtrRes nfcid3 did bs br tob pp gb s) := by
  unfold execAtrRes
  split_ifs with hst
  · exact .atrResPsl hst
  · exact .atrResDone hst
  · exact .move (.raise _)
  · exact frameMove_unexpected _ s

theorem frameMove_execPslReq (did : Option Byte) (brs fsl : Byte) (s : State) :
    FrameMove (.pslReq did brs fsl) s (execPslReq did brs fsl s) := by
  unfold execPslReq
  split_ifs with hst
  · exact .pslReq hst
  · exact .move .ignore
  · exact frameMove_unexpected _ s

theorem frameMove_execPslRes (body : List Byte) (s : State) :
    FrameMove (.pslRes body) s (execPslRes body s) := by
  unfold execPslRes
  split_ifs with hst
  · exact .pslRes hst
  · exact .move (.raise _)
  · exact frameMove_unexpected _ s

theorem frameMove_execDslReq (did : Option Byte) (trail : List Byte) (s : State) :
    FrameMove i s (execDslReq did trail s) := by
  unfold execDslReq
  split_ifs with htakes
  · exact .deselect htakes
  · exact .move .ignore
  · exact frameMove_unexpected _ s

theorem frameMove_execRlsReq (did : Option Byte) (trail : List Byte) (s : State) :
    FrameMove i s (execRlsReq did trail s) := by
  unfold execRlsReq
  split_ifs with htakes
  · exact .release htakes
  · exact .move .ignore
  · exact frameMove_unexpected _ s

theorem frameMove_execDslRes (did : Option Byte) (trail : List Byte) (s : State) :
    FrameMove i s (execDslRes did trail s) := by
  unfold execDslRes
  split_ifs with hst
  · exact .closeInitiator (.inl hst)
  · exact .move (.raise _)
  · exact frameMove_unexpected _ s

theorem frameMove_execRlsRes (did : Option Byte) (trail : List Byte) (s : State) :
    FrameMove i s (execRlsRes did trail s) := by
  unfold execRlsRes
  split_ifs with hst
  · exact .closeInitiator (.inr hst)
  · exact .move (.raise _)
  · exact frameMove_unexpected _ s

theorem frameMove_exec (i : Instr) (s : State) : FrameMove i s (exec i s) := by
  cases i with
  | atrReq nfcid3 did bs br pp gb => exact frameMove_execAtrReq nfcid3 did bs br pp gb s
  | atrRes nfcid3 did bs br tob pp gb => exact frameMove_execAtrRes nfcid3 did bs br tob pp gb s
  | pslReq did brs fsl => exact frameMove_execPslReq did brs fsl s
  | pslRes body => exact frameMove_execPslRes body s
  | depReqI mi pni did nad inf =>
    exact frameMove_onDepReq (fun hst => frameMove_targetInfo hst mi pni did nad inf)
      fun _ => .move (move_targetInfoAwaitingRtox pni s)
  | depReqAck pni => exact frameMove_onDepReq (fun hst => frameMove_targetAck hst pni) fun _ => .move .ignore
  | depReqNack =>
    exact frameMove_onDepReq (fun _ => .move (move_retransmitOrIgnore s)) fun _ => .move (move_retransmitOrIgnore s)
  | depReqAtn => exact frameMove_onDepReq (fun _ => .move (move_targetAtn s)) fun _ => .move (move_targetAtn s)
  | depReqRtox low did nad v =>
    exact frameMove_onDepReq (fun _ => .move .ignore) fun hst => frameMove_targetRtox hst v
  | depResI mi pni did nad inf => exact frameMove_onDepRes fun hst => frameMove_initiatorInfo hst mi pni did nad inf
  | depResAck pni => exact frameMove_onDepRes fun hst => frameMove_initiatorAck hst pni
  | depResNack => exact frameMove_onDepRes fun _ => .move (.raise _)
  | depResAtn => exact frameMove_onDepRes fun _ => .move (move_initiatorAtn s)
  | depResRtox low did nad v => exact frameMove_onDepRes fun hst => .move (move_initiatorRtox hst v)
  | dslReq did trail => exact frameMove_execDslReq did trail s
  | dslRes did trail => exact frameMove_execDslRes did trail s
  | rlsReq did trail => exact frameMove_execRlsReq did trail s
  | rlsRes did trail => exact frameMove_execRlsRes did trail s

/-! ### Commands -/

/-- A guarded command does what it starts, or is refused. -/
theorem commandMove_guarded {ok : Prop} [Decidable ok] {e : Err} {r : Result} (h : ok → CommandMove s r) :
    CommandMove s (if ok then r else hostError e s) := by
  split
  · exact h ‹_›
  · exact .refuse e

theorem commandMove_cmdExchange (data : List Byte) (s : State) : CommandMove s (cmdExchange data s) := by
  unfold cmdExchange
  split
  case h_1 hst => exact commandMove_guarded (.startInitiator hst)
  case h_2 hst => exact commandMove_guarded (.startTarget hst)
  case h_3 hst =>
    split
    · exact .refuse _
    · exact commandMove_guarded (.deferTarget hst)
  all_goals exact .refuse _

theorem commandMove_command (c : Cmd) (s : State) : CommandMove s (command c s) := by
  cases c with
  | initActivate cfg atr br => exact commandMove_guarded .initActivate
  | targListen cfg l => exact commandMove_guarded .targListen
  | exchange data => exact commandMove_cmdExchange data s
  | deselect => exact commandMove_guarded fun hst => .deactivate hst (.inl rfl)
  | release => exact commandMove_guarded fun hst => .deactivate hst (.inr rfl)

/-! ### The step -/

theorem stepMove_badFrame {bytes : List Byte} {why : Reject} (h : decode bytes = .error why) (s : State) :
    StepMove s (badFrame bytes why s) := by
  unfold badFrame
  split_ifs with hwhy hqueue
  · exact .move (move_rfError _ _ _ s)
  · refine .queue hqueue.1 (by_contra fun hlen => hwhy ?_)
    simpa [decode_of_not_lengthAgrees hlen, eq_comm] using h
  · exact .move (move_unexpected s)

theorem stepMove_receiveFrame (bytes : List Byte) (s : State) : StepMove s (receiveFrame bytes s).outcome := by
  cases h : decode bytes with
  | ok i => exact receiveFrame_of_ok h s ▸ .frame (encode_of_decode h).2 (frameMove_exec i s)
  | error why => exact receiveFrame_of_error h s ▸ stepMove_badFrame h s

theorem stepMove_pollWork (s : State) : StepMove s (pollWork s).outcome := by
  unfold pollWork
  split
  · exact .dequeue (stepMove_receiveFrame _ _)
  · exact .move (move_tick s)

theorem stepMove_workOf (input : Input) (d : Bool) (s : State) : StepMove s (workOf input d s).outcome := by
  cases input with
  | poll => exact stepMove_pollWork s
  | cmd c => exact .command (commandMove_command c s)
  | rf result =>
    cases result with
    | ok bytes => exact stepMove_receiveFrame bytes s
    | err e n => exact .move (move_rfError e n d s)
  | timerExpired =>
    rw [workOf]
    split
    · exact .move (move_timerExpiry ‹_›)
    · exact stepMove_pollWork s

/-- Every step is a move on the state with its input consumed and its action list empty. -/
theorem stepMove_step (s : State) : StepMove (beginStep s) (step s) :=
  step_eq_outcome s ▸ stepMove_workOf _ _ _

end Sys2Proof.Machine
end

section
/-! SUPPORT. What holds of every move, whatever the state: at most one RF action (00_scope.md R9), no stop where the
buffer is written, parameters and inputs as they were, memory changed by a block only, the PNI of verified blocks. -/

namespace Sys2Proof.Machine

variable {s : State} {r : Result} {i : Instr}

/-! ### The verified block (R231, R232, R266, R267): it writes the accumulator, its length, counters and, at an
Initiator, the PNI -/

@[simp] theorem acceptBlockInitiator_params (inf : List Byte) (s : State) :
    (acceptBlockInitiator inf s).params = s.params := by simp [acceptBlockInitiator]
@[simp] theorem acceptBlockInitiator_inputs (inf : List Byte) (s : State) :
    (acceptBlockInitiator inf s).inputs = s.inputs := by simp [acceptBlockInitiator]
@[simp] theorem acceptBlockInitiator_st (inf : List Byte) (s : State) :
    (acceptBlockInitiator inf s).st = s.st := by simp [acceptBlockInitiator]
@[simp] theorem acceptBlockInitiator_pni (inf : List Byte) (s : State) :
    (acceptBlockInitiator inf s).pni = pniInc s.pni := by simp [acceptBlockInitiator]
@[simp] theorem acceptBlockInitiator_txBuf (inf : List Byte) (s : State) :
    (acceptBlockInitiator inf s).txBuf = s.txBuf := by simp [acceptBlockInitiator]
@[simp] theorem acceptBlockInitiator_txLen (inf : List Byte) (s : State) :
    (acceptBlockInitiator inf s).txLen = s.txLen := by simp [acceptBlockInitiator]
@[simp] theorem acceptBlockInitiator_rxAcc (inf : List Byte) (s : State) :
    (acceptBlockInitiator inf s).rxAcc = s.rxAcc.writeBytes s.rxLen inf := by simp [acceptBlockInitiator]

@[simp] theorem acceptBlockTarget_params (inf : List Byte) (s : State) :
    (acceptBlockTarget inf s).params = s.params := by simp [acceptBlockTarget]
@[simp] theorem acceptBlockTarget_inputs (inf : List Byte) (s : State) :
    (acceptBlockTarget inf s).inputs = s.inputs := by simp [acceptBlockTarget]
@[simp] theorem acceptBlockTarget_st (inf : List Byte) (s : State) :
    (acceptBlockTarget inf s).st = s.st := by simp [acceptBlockTarget]
@[simp] theorem acceptBlockTarget_pni (inf : List Byte) (s : State) :
    (acceptBlockTarget inf s).pni = s.pni := by simp [acceptBlockTarget]
@[simp] theorem acceptBlockTarget_txBuf (inf : List Byte) (s : State) :
    (acceptBlockTarget inf s).txBuf = s.txBuf := by simp [acceptBlockTarget]
@[simp] theorem acceptBlockTarget_txLen (inf : List Byte) (s : State) :
    (acceptBlockTarget inf s).txLen = s.txLen := by simp [acceptBlockTarget]
@[simp] theorem acceptBlockTarget_rxAcc (inf : List Byte) (s : State) :
    (acceptBlockTarget inf s).rxAcc = s.rxAcc.writeBytes (rxBase s) inf := by simp [acceptBlockTarget]

/-! ### RF actions -/

/-- The number of RF actions in an action list. -/
def rfCount (actions : List Action) : Nat := (actions.filter isRfAction).length

@[simp] theorem rfCount_nil : rfCount [] = 0 := rfl

@[simp] theorem rfCount_append (as bs : List Action) : rfCount (as ++ bs) = rfCount as + rfCount bs := by
  simp [rfCount]

@[simp] theorem rfCount_cons (a : Action) (as : List Action) :
    rfCount (a :: as) = (if isRfAction a then 1 else 0) + rfCount as := by
  unfold rfCount
  rw [List.filter_cons]
  split
  · rw [List.length_cons, Nat.add_comm]
  · rw [Nat.zero_add]

/-- Terminal entry re-arms a Target once and an Initiator not at all (60_exceptions.md R340). -/
theorem rfCount_terminalActions_le (lands : St) : rfCount (terminalActions lands) ≤ 1 := by
  unfold terminalActions
  split <;> simp [isRfAction]

/-- The answer, where it is a next state, adds at most one RF action. -/
def AddsOneRf (s : State) (r : Result) : Prop := ∀ t, r = .next t → rfCount t.actions ≤ rfCount s.actions + 1

theorem addsOneRf_ret {σ : Status} {u : State} (h : rfCount u.actions ≤ rfCount s.actions + 1) :
    AddsOneRf s (ret σ u) := by
  intro t ht
  rw [ret_eq_next.1 ht]
  exact h

theorem addsOneRf_ret_of_eq {σ : Status} {u : State} (h : u.actions = s.actions) : AddsOneRf s (ret σ u) :=
  addsOneRf_ret (by rw [h]; exact Nat.le_succ _)

theorem addsOneRf_ret_of_append {σ : Status} {u : State} {a : Action} (h : u.actions = s.actions ++ [a]) :
    AddsOneRf s (ret σ u) := by
  refine addsOneRf_ret ?_
  rw [h, rfCount_append, rfCount_cons]
  split <;> simp

theorem Move.addsOneRf (h : Move s r) : AddsOneRf s r := by
  induction h with
  | raise e => exact addsOneRf_ret (by simpa using rfCount_terminalActions_le _)
  | ignore => exact addsOneRf_ret_of_append rfl
  | rest => exact addsOneRf_ret_of_eq rfl
  | counted c _ _ ih => simpa [AddsOneRf] using ih
  | launch => exact addsOneRf_ret_of_append rfl
  | sendAtrRes => exact addsOneRf_ret_of_append rfl
  | stuck => simp [AddsOneRf]
  | blockInitiator => exact addsOneRf_ret_of_append rfl
  | blockTarget => exact addsOneRf_ret_of_append rfl
  | retry => exact addsOneRf_ret_of_eq rfl
  | send => exact addsOneRf_ret_of_append rfl
  | rearm => exact addsOneRf_ret_of_append rfl
  | retransmit => exact addsOneRf_ret_of_append rfl
  | requestTime => exact addsOneRf_ret_of_append rfl

theorem FrameMove.addsOneRf (h : FrameMove i s r) : AddsOneRf s r := by
  cases h with
  | move h => exact h.addsOneRf
  | pslReq | pslRes => exact addsOneRf_ret (by simp [acceptPslReq, acceptPslRes, isRfAction])
  | deselect | release => exact addsOneRf_ret (by simp [closeTarget, isRfAction])
  | responseChained | requestChained | requestFinal | grantWaiting => exact addsOneRf_ret_of_append rfl
  | queue | atrReq | atrResPsl | atrResDone | closeInitiator | ackNext | ackLast | responseFinal | nextDue
  | grantPending => exact addsOneRf_ret_of_eq rfl

theorem CommandMove.addsOneRf (h : CommandMove s r) : AddsOneRf s r := by
  cases h with
  | targListen | startTarget => exact addsOneRf_ret_of_append rfl
  | refuse | initActivate | startInitiator | deferTarget | deactivate => exact addsOneRf_ret_of_eq rfl

theorem StepMove.addsOneRf (h : StepMove s r) : AddsOneRf s r := by
  induction h with
  | move h => exact h.addsOneRf
  | frame _ h => exact h.addsOneRf
  | queue => exact addsOneRf_ret_of_eq rfl
  | dequeue _ ih => exact ih
  | command h => exact h.addsOneRf

/-- Settles O59: a step begins with an empty action list, and no move adds two RF actions. -/
theorem atMostOneRfActionPerStep : Obligations.AtMostOneRfActionPerStep := by
  unfold Obligations.AtMostOneRfActionPerStep
  exact fun s t hstep => (stepMove_step s).addsOneRf t hstep

/-! ### No stop -/

/-- The answer is a next state, with the parameters and the pending inputs it had. -/
def Completes (s : State) (r : Result) : Prop := ∃ t, r = .next t ∧ t.params = s.params ∧ t.inputs = s.inputs

theorem completes_ret {σ : Status} {u : State} (hp : u.params = s.params) (hi : u.inputs = s.inputs) :
    Completes s (ret σ u) := ⟨_, rfl, hp, hi⟩

theorem bufferInv_bump (c : Counter) (h : BufferInv s) : BufferInv (bump c s) :=
  ⟨by simpa using h.tx, by simpa using h.off_le, by simpa using h.rx⟩

/-- A state that waits for a frame, or whose buffers are written: what the state of a step needs not to stop (log 4). -/
def CanMove (s : State) : Prop := waitsForRf s.st = true ∨ BufferInv s

theorem CanMove.bump (h : CanMove s) (c : Counter) : CanMove (bump c s) :=
  h.imp (fun hw => by rwa [bump_st]) (bufferInv_bump c)

theorem Move.completes (h : Move s r) (hcan : CanMove s) : Completes s r := by
  induction h with
  | counted c _ _ ih => simpa [Completes] using ih (hcan.bump c)
  | stuck hst h =>
    rcases hcan with hwaits | hbuf
    · rcases hst with hst | hst <;> simp [hst, waitsForRf] at hwaits
    · obtain ⟨block, hblock⟩ := nextBlock_isSome hbuf
      simp [h] at hblock
  | raise | ignore | rest | launch | sendAtrRes | blockInitiator | blockTarget | retry | send | rearm | retransmit
  | requestTime => exact completes_ret rfl rfl

theorem FrameMove.completes (h : FrameMove i s r) (hcan : CanMove s) : Completes s r := by
  cases h with
  | move h => exact h.completes hcan
  | responseChained | responseFinal | requestChained | requestFinal => exact completes_ret (by simp) (by simp)
  | queue | atrReq | atrResPsl | atrResDone | pslReq | pslRes | deselect | release | closeInitiator | ackNext | ackLast
  | nextDue | grantPending | grantWaiting => exact completes_ret rfl rfl

theorem CommandMove.completes (h : CommandMove s r) : Completes s r := by
  cases h with
  | refuse | initActivate | targListen | startInitiator | startTarget | deferTarget | deactivate =>
    exact completes_ret rfl rfl

theorem StepMove.completes (h : StepMove s r) (hbuf : BufferInv s) : Completes s r := by
  induction h with
  | move h => exact h.completes (.inr hbuf)
  | frame _ h => exact h.completes (.inr hbuf)
  | queue => exact completes_ret rfl rfl
  | dequeue _ ih => exact ih ⟨hbuf.tx, hbuf.off_le, hbuf.rx⟩
  | command h => exact h.completes

/-- Settles O57: a state that waits for a frame is no sending state, so no move from it stops. -/
theorem everyFrameCompletesWhereReceptionIsArmed : Obligations.EveryFrameCompletesWhereReceptionIsArmed := by
  unfold Obligations.EveryFrameCompletesWhereReceptionIsArmed
  exact fun i s hwaits => (frameMove_exec i s).completes (.inl hwaits)

/-- Settles O56: the buffers of the invariant are written below their valid length. -/
theorem stepNeverStops : Obligations.StepNeverStops := by
  unfold Obligations.StepNeverStops
  intro s hinv
  obtain ⟨t, ht, -, -⟩ :=
    (stepMove_step s).completes ⟨hinv.buffers.tx, hinv.buffers.off_le, hinv.buffers.rx⟩
  exact ⟨t, ht⟩

/-! ### Memory -/

/-- The buffer spaces of a state. -/
def memory (s : State) : Memory × Nat × Memory := (s.txBuf, s.txLen, s.rxAcc)

/-- The answer, where it is a next state, has both buffers as they were, but for the bytes of `rx_acc` from `off` to
`off + n`. -/
def StoresWithin (off n : Nat) (s : State) (r : Result) : Prop :=
  ∀ t, r = .next t → t.txBuf = s.txBuf ∧ t.txLen = s.txLen ∧
    ∀ a, a < off ∨ off + n ≤ a → t.rxAcc.read a = s.rxAcc.read a

theorem storesWithin_ret {off n : Nat} {σ : Status} {u : State} (h : memory u = memory s) :
    StoresWithin off n s (ret σ u) := by
  intro t ht
  obtain ⟨htx, hlen, hrx⟩ : u.txBuf = s.txBuf ∧ u.txLen = s.txLen ∧ u.rxAcc = s.rxAcc := by simpa [memory] using h
  rw [ret_eq_next.1 ht]
  exact ⟨htx, hlen, fun a _ => by rw [hrx]⟩

/-- A block stored from `off` changes nothing outside itself (20_memory.md R62). -/
theorem storesWithin_ret_of_writeBytes {off : Nat} {inf : List Byte} {σ : Status} {u : State}
    (h : memory u = (s.txBuf, s.txLen, s.rxAcc.writeBytes off inf)) : StoresWithin off inf.length s (ret σ u) := by
  intro t ht
  obtain ⟨htx, hlen, hrx⟩ : u.txBuf = s.txBuf ∧ u.txLen = s.txLen ∧ u.rxAcc = s.rxAcc.writeBytes off inf := by
    simpa [memory] using h
  rw [ret_eq_next.1 ht]
  exact ⟨htx, hlen, fun a ha => by rw [hrx, Memory.read_writeBytes_of_outside inf _ ha]⟩

theorem Move.storesNothing (h : Move s r) (off n : Nat) : StoresWithin off n s r := by
  induction h with
  | counted c _ _ ih => simpa [StoresWithin] using ih
  | stuck => simp [StoresWithin]
  | raise | ignore | rest | launch | sendAtrRes | blockInitiator | blockTarget | retry | send | rearm | retransmit
  | requestTime => exact storesWithin_ret rfl

theorem FrameMove.storesWithin (h : FrameMove i s r) :
    StoresWithin (storedBlock i s).1 (storedBlock i s).2 s r := by
  cases h with
  | move h => exact h.storesNothing _ _
  | responseChained | responseFinal | requestChained | requestFinal =>
    exact storesWithin_ret_of_writeBytes (by simp [memory, storedBlock])
  | queue | atrReq | atrResPsl | atrResDone | pslReq | pslRes | deselect | release | closeInitiator | ackNext | ackLast
  | nextDue | grantPending | grantWaiting => exact storesWithin_ret rfl

/-- Settles O12: the two I-PDUs store their block where `storedBlock` says, and no other frame stores. -/
theorem framesStoreOnlyTheirBlock : Obligations.FramesStoreOnlyTheirBlock := by
  unfold Obligations.FramesStoreOnlyTheirBlock
  intro i s t hexec
  obtain ⟨htx, hlen, hrx⟩ := (frameMove_exec i s).storesWithin t hexec
  exact ⟨fun a => by rw [htx], hlen, hrx⟩

/-! ### PNI (41_sequencing_chaining_counters.md R150, R151) -/

theorem toNat_pniInc (p : Pni) : (pniInc p).toNat = (p.toNat + 1) % 4 := by
  revert p
  decide

theorem toNat_pniDec (p : Pni) : (pniDec p).toNat = (p.toNat + 3) % 4 := by
  revert p
  decide

/-- The answer has moved the PNI on if it ends or continues a block exchange, which in `T_DEP_RX` only ChainingContinue
does: there the final block keeps the PNI for the response (R267). -/
def AdvancesAtBlock (s : State) (r : Result) : Prop :=
  ∀ t, r = .next t → t.status = .chainingContinue ∨ (s.st = .iDepRx ∧ EndsBlock t) → t.pni = pniInc s.pni

theorem advancesAtBlock_ret_of_eq {σ : Status} {u : State} (h : u.pni = pniInc s.pni) : AdvancesAtBlock s (ret σ u) := by
  intro t ht _
  rw [ret_eq_next.1 ht]
  exact h

/-- What ends no block, or ends one in another state than `I_DEP_RX`. -/
theorem advancesAtBlock_ret_of_other {σ : Status} {u : State} (hchain : σ ≠ .chainingContinue)
    (hrx : s.st = .iDepRx → σ ≠ .done ∧ isSendSt u.st = false) : AdvancesAtBlock s (ret σ u) := by
  rintro t ht (hends | ⟨hst, hends⟩)
  · exact absurd (by simpa [ret_eq_next.1 ht] using hends) hchain
  · obtain ⟨hdone, hsend⟩ := hrx hst
    simp [ret_eq_next.1 ht, EndsBlock, hchain, hdone, hsend] at hends

theorem restStatus_ne_chainingContinue (st : St) : restStatus st ≠ .chainingContinue := by
  cases st <;> simp [restStatus]

/-- A state other than `I_DEP_RX` asks nothing. -/
theorem advancesAtBlock_ret_of_ne {σ : Status} {u : State} (hst : s.st ≠ .iDepRx)
    (hchain : σ ≠ .chainingContinue := by simp) : AdvancesAtBlock s (ret σ u) :=
  advancesAtBlock_ret_of_other hchain fun h => absurd h hst

/-- Staying in the state ends nothing. -/
theorem advancesAtBlock_ret_inProgress {u : State} (hst : u.st = s.st) : AdvancesAtBlock s (ret .inProgress u) :=
  advancesAtBlock_ret_of_other (by simp) fun h => ⟨by simp, by rw [hst, h]; rfl⟩

theorem Move.advancesAtBlock (h : Move s r) : AdvancesAtBlock s r := by
  induction h with
  | raise e => exact advancesAtBlock_ret_of_other (by simp) fun _ => ⟨by simp, isSendSt_landing _⟩
  | ignore | send | rearm | retransmit => exact advancesAtBlock_ret_inProgress rfl
  | rest => exact advancesAtBlock_ret_of_other (restStatus_ne_chainingContinue _) fun h => by simp [h, restStatus, isSendSt]
  | counted c _ _ ih => simpa [AdvancesAtBlock] using ih
  | launch _ _ h => exact advancesAtBlock_ret_of_ne fun hst => by simp [hst, launchTarget] at h
  | sendAtrRes hst => exact advancesAtBlock_ret_of_ne (by simp [hst])
  | stuck => simp [AdvancesAtBlock]
  | blockInitiator hst => exact advancesAtBlock_ret_of_ne (by simp [hst])
  | blockTarget hst => exact advancesAtBlock_ret_of_ne (by simp [hst])
  | retry h => exact advancesAtBlock_ret_of_ne fun hst => by simp [hst, retryTarget] at h
  | requestTime hst => exact advancesAtBlock_ret_of_ne (by simp [hst])

theorem FrameMove.advancesAtBlock (h : FrameMove i s r) : AdvancesAtBlock s r := by
  cases h with
  | move h => exact h.advancesAtBlock
  | ackNext | ackLast | responseChained | responseFinal | requestChained =>
    exact advancesAtBlock_ret_of_eq (by simp)
  | deselect htakes | release htakes =>
    exact advancesAtBlock_ret_of_ne fun hst => by simp [hst, takesDeactReq] at htakes
  | closeInitiator hst =>
    exact advancesAtBlock_ret_of_ne fun h => by simp [h] at hst
  | queue _ hst | atrReq hst | atrResPsl hst | atrResDone hst | pslReq hst | pslRes hst | requestFinal hst | nextDue hst
  | grantPending hst | grantWaiting hst => exact advancesAtBlock_ret_of_ne (by simp [hst])

theorem pni_of_tick_tDepTx {t : State} (hst : s.st = .tDepTx) (h : tick s = .next t) : t.pni = pniInc s.pni := by
  have htick : tick s = sendBlockTarget s := by simp only [tick, hst]
  rw [htick, sendBlockTarget] at h
  split at h
  · cases h
  · rename_i hnext
    obtain ⟨-, -, rfl⟩ := nextBlock_eq_some.1 hnext
    rw [ret_eq_next.1 h]
    rfl

/-- Settles O8: the arithmetic is that of two bits, each verified block advances, and so does a Target's send. -/
theorem pniCountsVerifiedBlocksModuloFour : Obligations.PniCountsVerifiedBlocksModuloFour := by
  unfold Obligations.PniCountsVerifiedBlocksModuloFour
  refine ⟨fun p => ⟨toNat_pniInc p, toNat_pniDec p⟩, ?_, ?_, ?_⟩
  · intro i s t hst hexec hends
    have hblock : EndsBlock t := hends.imp_right (Or.imp_right fun h => by rw [h]; rfl)
    rw [(frameMove_exec i s).advancesAtBlock t hexec (.inr ⟨hst, hblock⟩), toNat_pniInc]
  · intro i s t _ hexec hchain
    rw [(frameMove_exec i s).advancesAtBlock t hexec (.inl hchain), toNat_pniInc]
  · intro s t hst htick
    rw [pni_of_tick_tDepTx hst htick, toNat_pniInc]

end Sys2Proof.Machine
end

section
/-! SUPPORT. The machine invariant: one rule per state operation, then every move keeps it (60_exceptions.md section 5,
10_state.md sections 1 to 6). -/

namespace Sys2Proof.Machine

variable {s : State} {r : Result} {i : Instr}

/-! ### RTOX values (41_sequencing_chaining_counters.md R162, R163) -/

theorem rtoxValid_iff {v : Byte} : rtoxValid v = true ↔ 1 ≤ v.toNat ∧ v.toNat ≤ 59 := by
  simp [rtoxValid, Config.rtoxMin, Config.rtoxMax]

theorem clamp_bounds {lo hi : Nat} (h : lo ≤ hi) (x : Nat) : lo ≤ clamp x lo hi ∧ clamp x lo hi ≤ hi :=
  ⟨Nat.le_min.2 ⟨Nat.le_max_right x lo, h⟩, Nat.min_le_right _ _⟩

/-- The clamp is what keeps a request in range. -/
theorem rtoxReqValue_bounds (s : State) : 1 ≤ (rtoxReqValue s).toNat ∧ (rtoxReqValue s).toNat ≤ 59 := by
  obtain ⟨hlo, hhi⟩ := clamp_bounds (show 1 ≤ 59 by decide) (rwt s.params.wtTrgMax / rwt s.wt.toNat)
  rw [rtoxReqValue, BitVec.toNat_ofNat, Nat.mod_eq_of_lt (Nat.lt_of_le_of_lt hhi (by decide))]
  exact ⟨hlo, hhi⟩

theorem rtoxValid_rtoxReqValue (s : State) : rtoxValid (rtoxReqValue s) = true :=
  rtoxValid_iff.2 (rtoxReqValue_bounds s)

theorem initiatorRtox_of_invalid {v : Byte} (h : ¬ rtoxValid v = true) (s : State) :
    initiatorRtox v s = raise .protocolError s := by
  have hfalse : rtoxValid v = false := Bool.eq_false_iff.2 h
  rw [initiatorRtox, if_pos hfalse, ite_self]

/-- Settles O10: the request is clamped, and an Initiator checks the range before it counts a grant. -/
theorem rtoxValuesStayInRange : Obligations.RtoxValuesStayInRange := by
  unfold Obligations.RtoxValuesStayInRange
  refine ⟨fun _ => rtoxValid_iff, rtoxReqValue_bounds, fun low v trail s hst hv => ?_⟩
  rw [exec, execDepResRtox, onDepRes_of_session hst, initiatorRtox_of_invalid (mt rtoxValid_iff.1 hv),
    raise_of_iDepRx hst]

/-! ### What the invariant reads -/

/-- The state with a fixed value in every field the invariant does not read. -/
def invView (s : State) : State :=
  { s with
    inputs := [], actions := [], status := .idle, commMode := .passive
    bitrateSend := 0, bitrateRecv := 0, lr := 0, oper := 0
    ownBs := 0, ownBr := 0, peerBs := 0, peerBr := 0, peerLr := 0, peerNadUsed := false, desiredBr := 0
    pni := 0, txChaining := false, rxChaining := false
    lastPfb := none, lastPfbExcludingAtn := none, lastDeadline := .noDeadline }

theorem inv_invView_iff : Inv (invView s) ↔ Inv s :=
  ⟨fun h => ⟨⟨h.role.initiator, h.role.target⟩, h.session, { h.registers with }, h.counters,
      ⟨h.buffers.tx, h.buffers.off_le, h.buffers.rx⟩⟩,
    fun h => ⟨⟨h.role.initiator, h.role.target⟩, h.session, { h.registers with }, h.counters,
      ⟨h.buffers.tx, h.buffers.off_le, h.buffers.rx⟩⟩⟩

/-- A write to fields the invariant does not read keeps it. -/
theorem Inv.congr (h : Inv s) {u : State} (hview : invView u = invView s := by rfl) : Inv u :=
  inv_invView_iff.1 (hview ▸ inv_invView_iff.2 h)

/-! ### One rule per operation -/

theorem Inv.after_bump (h : Inv s) {c : Counter} (hlt : counterOf c s < ceilingOf c s.params) : Inv (bump c s) where
  role := ⟨by simpa using h.role.initiator, by simpa using h.role.target⟩
  session := by simpa [SessionInv] using h.session
  registers := by
    obtain ⟨h1, h2, h3, h4, h5, h6, h7, h8, h9, h10, h11, h12, h13, h14, h15⟩ := h.registers
    constructor <;> simpa
  counters := fun c' => by
    by_cases hc : c' = c
    · simpa [hc] using hlt
    · simpa [counterOf_bump_of_ne hc] using h.counters c'
  buffers := bufferInv_bump c h.buffers

theorem Inv.after_clearCounters (h : Inv s) : Inv (clearCounters s) where
  role := ⟨h.role.initiator, h.role.target⟩
  session := h.session
  registers := { h.registers with }
  counters := fun c => by
    cases c with
    | atr => exact h.counters .atr
    | psl => exact h.counters .psl
    | tx | timeout | rtox | nack | atn => exact Nat.zero_le _
  buffers := ⟨h.buffers.tx, h.buffers.off_le, h.buffers.rx⟩

theorem Inv.with_buffers (h : Inv s) {txBuf rxAcc : Memory} {txLen txOff rxLen : Nat}
    (htx : BufferOk txBuf txLen s.params.txCap) (hoff : txOff ≤ txLen) (hrx : BufferOk rxAcc rxLen s.params.rxCap) :
    Inv { s with txBuf := txBuf, txLen := txLen, txOff := txOff, rxAcc := rxAcc, rxLen := rxLen } :=
  ⟨⟨h.role.initiator, h.role.target⟩, h.session, { h.registers with }, h.counters, ⟨htx, hoff, hrx⟩⟩

theorem BufferOk.truncate {m : Memory} {len len' cap : Nat} (h : BufferOk m len cap) (hle : len' ≤ len) :
    BufferOk m len' cap :=
  ⟨h.canonical, Nat.le_trans hle h.len_le, h.inside, fun a ha => h.written a (Nat.lt_of_lt_of_le ha hle)⟩

/-- A new request restarts the accumulator (R220, R266). -/
theorem Inv.restart (h : Inv s) {len : Nat} (hle : len ≤ s.rxLen) : Inv { s with rxLen := len } :=
  h.with_buffers h.buffers.tx h.buffers.off_le (h.buffers.rx.truncate hle)

theorem Inv.after_append (h : Inv s) {inf : List Byte} (hcap : s.rxLen + inf.length ≤ s.params.rxCap) :
    Inv (append inf s) :=
  h.with_buffers h.buffers.tx h.buffers.off_le (h.buffers.rx.writeBytes inf (Nat.le_refl _) hcap)

theorem Inv.after_loadTxBuf (h : Inv s) {data : List Byte} (hcap : data.length ≤ s.params.txCap) : Inv (loadTxBuf data s) := by
  have htx := h.buffers.tx.writeBytes data (Nat.zero_le _) (by simpa using hcap)
  rw [Nat.zero_add] at htx
  exact (h.with_buffers htx (Nat.zero_le _) h.buffers.rx).congr

/-- `next_block` moves the offset within the payload (R155). -/
theorem Inv.after_moveOffset (h : Inv s) : Inv { s with txOff := s.txOff + nextBlockLen s } := by
  have hoff := h.buffers.off_le
  exact h.with_buffers h.buffers.tx (by unfold nextBlockLen; omega) h.buffers.rx

theorem getLastD_encodeDep_rtox (v : Byte) (s : State) : (encodeDep .rtox [v] s).getLastD 0 = v := by
  have hbody : encodeDep .rtox [v] s =
      ((encodeDep .rtox [] s).set 0 ((encodeDep .rtox [v] s).headD 0)) ++ [v] := by
    simp [encodeDep, frameOf, depBody]
  rw [hbody]
  simp

/-- A transmitted DEP frame is recorded with a right LEN and its role's CMD_TYPE, unless it is an ATN (R160). -/
theorem Inv.after_sendDep (h : Inv s) {k : DepKind} {payload : List Byte} (hlen : payload.length ≤ maxInf s)
    (hrtox : k = .rtox → s.st ≠ .tAwaitRtoxRes) (d : Deadline) : Inv (sendDep k payload d s) := by
  obtain ⟨hagrees, htype⟩ := sendableBy_encodeDep k hlen
  refine ⟨⟨h.role.initiator, h.role.target⟩, h.session,
    { h.registers with recorded := ?_, last_frame := ?_, last_type := ?_, rtox_value := ?_ }, h.counters,
    ⟨h.buffers.tx, h.buffers.off_le, h.buffers.rx⟩⟩
  · rw [sendDep_lastFrame]
    split
    · exact h.registers.recorded
    · simp
  · rw [sendDep_lastFrame]
    split
    · exact h.registers.last_frame
    · exact fun _ => hagrees
  · rw [sendDep_lastFrame]
    split
    · exact h.registers.last_type
    · exact fun _ => htype
  · intro hst
    rw [sendDep_lastRtoxValue, if_neg fun hk => hrtox hk hst]
    exact h.registers.rtox_value hst

/-! ### Moving to another state -/

/-- What the invariant asks of the registers before `st` becomes `st'`. -/
structure Enterable (s : State) (st' : St) : Prop where
  initiator : isInitiatorSt st' = true → s.role = .initiator
  target : isTargetSt st' = true → s.role = .target
  tx_pending : s.txPending = true → st' = .tAwaitRtoxRes
  recorded : st' = .iDepRx ∨ st' = .tAwaitRtoxRes → s.lastFrame ≠ []
  rtox_value : st' = .tAwaitRtoxRes → rtoxValid s.lastRtoxValue = true

/-- Into a session or out of one: `cfg_valid` follows `st` (10_state.md R24). -/
theorem Inv.enter (h : Inv s) {st' : St} (hst' : Enterable s st') :
    Inv { s with st := st', cfgValid := isSessionSt st' } :=
  ⟨⟨hst'.initiator, hst'.target⟩, rfl,
    { h.registers with
      tx_pending := hst'.tx_pending
      recorded := hst'.recorded
      rtox_value := hst'.rtox_value },
    h.counters, ⟨h.buffers.tx, h.buffers.off_le, h.buffers.rx⟩⟩

/-- Within a session, or within activation, `cfg_valid` stays. -/
theorem Inv.goto (h : Inv s) {st' : St} (hst' : Enterable s st') (hsession : isSessionSt st' = isSessionSt s.st) :
    Inv { s with st := st' } := by
  have henter := h.enter hst'
  rw [hsession, ← h.session] at henter
  exact henter

/-- `st'` is on the side of `st`, or is `IDLE`. -/
def sameSide (st st' : St) : Bool :=
  decide ((isInitiatorSt st' = true → isInitiatorSt st = true) ∧ (isTargetSt st' = true → isTargetSt st = true))

/-- A state that needs a recorded frame (10_state.md R36, R40). -/
def needsRecord (st : St) : Bool := st == .iDepRx || st == .tAwaitRtoxRes

theorem Inv.enterable (h : Inv s) {st' : St} (hpending : s.txPending = false) (hside : sameSide s.st st' = true)
    (hrecord : needsRecord st' = false) : Enterable s st' := by
  obtain ⟨hini, htgt⟩ := of_decide_eq_true hside
  obtain ⟨hrx, hrtox⟩ : st' ≠ .iDepRx ∧ st' ≠ .tAwaitRtoxRes := by simpa [needsRecord] using hrecord
  exact ⟨fun hi => h.role.initiator (hini hi), fun ht => h.role.target (htgt ht), fun hp => by simp [hpending] at hp,
    fun hor => absurd hor (by simp [hrx, hrtox]), fun heq => absurd heq hrtox⟩

theorem Inv.txPending_eq_false (h : Inv s) (hst : s.st ≠ .tAwaitRtoxRes) : s.txPending = false :=
  Bool.eq_false_iff.2 fun hp => hst (h.registers.tx_pending hp)

/-- From a state named, where the three conditions are decided by evaluation. -/
theorem Inv.enterable_from (h : Inv s) {st st' : St} (hst : s.st = st) (hne : st ≠ .tAwaitRtoxRes := by decide)
    (hside : sameSide st st' = true := by decide) (hrecord : needsRecord st' = false := by decide) :
    Enterable s st' :=
  h.enterable (h.txPending_eq_false (hst ▸ hne)) (hst ▸ hside) hrecord

theorem Inv.goto_from (h : Inv s) {st st' : St} (hst : s.st = st) (hne : st ≠ .tAwaitRtoxRes := by decide)
    (hside : sameSide st st' = true := by decide) (hrecord : needsRecord st' = false := by decide)
    (hsession : isSessionSt st' = isSessionSt st := by decide) : Inv { s with st := st' } :=
  h.goto (h.enterable_from hst hne hside hrecord) (hst ▸ hsession)

/-- The cycle is aborted: nothing is pending in either direction (60_exceptions.md R340, 45_deactivation.md R305). -/
theorem Inv.abort (h : Inv s) : Inv { s with txPending := false, pendingReq := [] } :=
  ⟨⟨h.role.initiator, h.role.target⟩, h.session,
    { h.registers with
      tx_pending := fun hp => Bool.noConfusion hp
      pending_role := fun hne => absurd rfl hne
      pending_frame := fun hne => absurd rfl hne },
    h.counters, ⟨h.buffers.tx, h.buffers.off_le, h.buffers.rx⟩⟩

theorem Inv.dequeue (h : Inv s) : Inv { s with pendingReq := [] } :=
  ⟨⟨h.role.initiator, h.role.target⟩, h.session,
    { h.registers with
      pending_role := fun hne => absurd rfl hne
      pending_frame := fun hne => absurd rfl hne },
    h.counters, ⟨h.buffers.tx, h.buffers.off_le, h.buffers.rx⟩⟩

theorem Inv.enqueue (h : Inv s) {bytes : List Byte} (hrole : s.role = .target) (hlen : lengthAgrees bytes = true) :
    Inv { s with pendingReq := bytes } :=
  ⟨⟨h.role.initiator, h.role.target⟩, h.session,
    { h.registers with
      pending_role := fun _ => hrole
      pending_frame := fun _ => hlen },
    h.counters, ⟨h.buffers.tx, h.buffers.off_le, h.buffers.rx⟩⟩

theorem Inv.clearTxPending (h : Inv s) : Inv { s with txPending := false } :=
  ⟨⟨h.role.initiator, h.role.target⟩, h.session, { h.registers with tx_pending := fun hp => Bool.noConfusion hp },
    h.counters, ⟨h.buffers.tx, h.buffers.off_le, h.buffers.rx⟩⟩

theorem Inv.setTxPending (h : Inv s) (hst : s.st = .tAwaitRtoxRes) : Inv { s with txPending := true } :=
  ⟨⟨h.role.initiator, h.role.target⟩, h.session, { h.registers with tx_pending := fun _ => hst },
    h.counters, ⟨h.buffers.tx, h.buffers.off_le, h.buffers.rx⟩⟩

/-- The peer's identity, as an ATR frame brings it (R203, R189). -/
theorem Inv.setPeer (h : Inv s) {nfcid3 gb : List Byte} (hid : nfcid3.length = Config.nfcid3Len)
    (hgb : gb.length ≤ Config.gbMax) : Inv { s with nfcid3Peer := nfcid3, gbPeer := gb } :=
  ⟨⟨h.role.initiator, h.role.target⟩, h.session, { h.registers with nfcid3_peer := hid, gb_peer := hgb },
    h.counters, ⟨h.buffers.tx, h.buffers.off_le, h.buffers.rx⟩⟩

theorem Inv.setDid (h : Inv s) {did : Byte} (hdid : did.toNat ≤ s.params.didMax) : Inv { s with did := did } :=
  ⟨⟨h.role.initiator, h.role.target⟩, h.session, { h.registers with did_le := hdid },
    h.counters, ⟨h.buffers.tx, h.buffers.off_le, h.buffers.rx⟩⟩

theorem toNat_capWt_le (wt max : Nat) : (capWt wt max).toNat ≤ max := by
  rw [capWt, BitVec.toNat_ofNat]
  exact Nat.le_trans (Nat.mod_le _ _) (Nat.min_le_right _ _)

/-- An Initiator caps the WT it is told (10_state.md R31). -/
theorem Inv.setWt (h : Inv s) (hrole : s.role = .initiator) (wt : Nat) :
    Inv { s with wt := capWt wt s.params.wtIniMax } :=
  ⟨⟨h.role.initiator, h.role.target⟩, h.session,
    { h.registers with
      wt_initiator := fun _ => toNat_capWt_le _ _
      wt_target := fun ht => by simp [hrole] at ht },
    h.counters, ⟨h.buffers.tx, h.buffers.off_le, h.buffers.rx⟩⟩

/-! ### Outcomes -/

/-- The answer, where it is a next state, has the invariant. -/
def KeepsInv (r : Result) : Prop := ∀ t, r = .next t → Inv t

theorem keepsInv_ret {σ : Status} {u : State} (h : Inv u) : KeepsInv (ret σ u) := by
  intro t ht
  rw [ret_eq_next.1 ht]
  exact h.congr

theorem isSessionSt_landing (st : St) :
    isSessionSt (landing st) = if landing st = .idle then false else isSessionSt st := by
  cases st <;> rfl

/-- Every landing is on the side it came from, and none awaits a response (60_exceptions.md R341). -/
theorem landing_facts (st : St) : sameSide st (landing st) = true ∧ needsRecord (landing st) = false := by
  cases st <;> exact ⟨rfl, rfl⟩

theorem Inv.after_raise (h : Inv s) (e : Err) : KeepsInv (raise e s) := by
  obtain ⟨hside, hrecord⟩ := landing_facts s.st
  have habort := h.abort
  have henter := habort.enter (habort.enterable rfl hside hrecord)
  rw [isSessionSt_landing, ← h.session] at henter
  exact keepsInv_ret henter.congr

theorem Inv.after_closeTarget (h : Inv s) {lands : St} (hlands : lands = .tSleep ∨ lands = .idle)
    (htakes : takesDeactReq s.st = true) (res : FrameKind) : Inv (closeTarget res lands s) := by
  have habort := h.abort
  have hside : sameSide s.st .tSleep = true ∧ sameSide s.st .idle = true := by
    revert htakes
    cases s.st <;> decide
  rcases hlands with rfl | rfl
  · exact (habort.enter (habort.enterable rfl hside.1 rfl)).congr
  · exact (habort.enter (habort.enterable rfl hside.2 rfl)).congr

/-! ### Moves -/

theorem length_le_maxInf_of_le_one {payload : List Byte} (h : payload.length ≤ 1) (s : State) :
    payload.length ≤ maxInf s :=
  Nat.le_trans (Nat.le_trans h (by decide)) (maxInf_bounds s).1

/-- The answers to an activation or deactivation request are awaited on its own side, and none is a DEP frame. -/
theorem launchTarget_facts {st st' : St} (h : launchTarget st = some st') :
    st ≠ .tAwaitRtoxRes ∧ sameSide st st' = true ∧ needsRecord st' = false ∧ isSessionSt st' = isSessionSt st := by
  cases st <;> simp only [launchTarget, reduceCtorEq, Option.some.injEq] at h <;> subst h <;> decide

theorem retryTarget_facts {st st' : St} (h : retryTarget st = some st') :
    st ≠ .tAwaitRtoxRes ∧ sameSide st st' = true ∧ needsRecord st' = false ∧ isSessionSt st' = isSessionSt st := by
  cases st <;> simp only [retryTarget, reduceCtorEq, Option.some.injEq] at h <;> subst h <;> decide

/-- A frame just recorded is what the two states that may retransmit it need. -/
theorem enterable_sendDep {k : DepKind} {payload : List Byte} {d : Deadline} {st' : St} (hk : k ≠ .atn)
    (hini : isInitiatorSt st' = true → s.role = .initiator) (htgt : isTargetSt st' = true → s.role = .target)
    (hpending : s.txPending = false)
    (hrtox : st' = .tAwaitRtoxRes → rtoxValid (sendDep k payload d s).lastRtoxValue = true) :
    Enterable (sendDep k payload d s) st' where
  initiator := hini
  target := htgt
  tx_pending := fun hp => by simp [hpending] at hp
  recorded := fun _ => by simp [sendDep_lastFrame, hk]
  rtox_value := hrtox

/-- The next block, sent and recorded (R222, R285). -/
theorem Inv.after_sendBlock (h : Inv s) {inf : List Byte} (hlen : inf.length ≤ maxInf s) (mi : Bool) (d : Deadline) :
    Inv (sendDep (.info mi) inf d { s with txOff := s.txOff + nextBlockLen s, txChaining := mi }) := by
  have hmoved : Inv { s with txOff := s.txOff + nextBlockLen s, txChaining := mi } := h.after_moveOffset.congr
  exact hmoved.after_sendDep hlen (by simp) d

/-- The request for more time is recorded with a legal value (R283). -/
theorem Inv.after_requestTime (h : Inv s) (hst : s.st = .tRespPending) :
    Inv { sendDep .rtox [rtoxReqValue s] .noDeadline s with st := .tAwaitRtoxRes } := by
  have hsent := h.after_sendDep (k := .rtox) (length_singleton_le_maxInf (rtoxReqValue s) s) (by simp [hst]) .noDeadline
  refine hsent.goto (enterable_sendDep (by simp) (by simp [isInitiatorSt]) (fun _ => ?_) ?_ fun _ => ?_) ?_
  · exact h.role.target (by rw [hst]; rfl)
  · exact h.txPending_eq_false (by simp [hst])
  · rw [sendDep_lastRtoxValue, if_pos rfl, getLastD_encodeDep_rtox]
    exact rtoxValid_rtoxReqValue s
  · rw [sendDep_st, hst]
    rfl

theorem Move.keepsInv (h : Move s r) (hinv : Inv s) : KeepsInv r := by
  induction h with
  | raise e => exact hinv.after_raise e
  | ignore | rearm | retransmit => exact keepsInv_ret hinv.congr
  | rest => exact keepsInv_ret hinv
  | counted c hlt _ ih => exact ih (hinv.after_bump hlt)
  | launch _ _ h =>
    obtain ⟨hne, hside, hrecord, hsession⟩ := launchTarget_facts h
    exact keepsInv_ret (hinv.goto_from rfl hne hside hrecord hsession).congr
  | sendAtrRes hst => exact keepsInv_ret (hinv.goto_from (st' := .tWaitActCompletion) hst).congr
  | stuck => simp [KeepsInv]
  | @blockInitiator s inf hst hlen mi =>
    have hrole : s.role = .initiator := hinv.role.initiator (by rw [hst]; rfl)
    have hpending : s.txPending = false := hinv.txPending_eq_false (by simp [hst])
    have hsent := hinv.after_sendBlock hlen mi (depDeadline s)
    refine keepsInv_ret (hsent.goto (enterable_sendDep (by simp) (fun _ => hrole) (by simp [isTargetSt]) hpending
      (by simp)) ?_)
    rw [sendDep_st, hst]
    rfl
  | blockTarget hst hlen mi =>
    have hsent := hinv.after_sendBlock hlen mi .noDeadline
    exact keepsInv_ret (hsent.goto_from (st := .tDepTx) (st' := .tDepRx) hst).congr
  | retry h =>
    obtain ⟨hne, hside, hrecord, hsession⟩ := retryTarget_facts h
    exact keepsInv_ret (hinv.goto_from rfl hne hside hrecord hsession)
  | send d hlen hk =>
    refine keepsInv_ret (hinv.after_sendDep (length_le_maxInf_of_le_one hlen _) (fun hrtox hst => ?_) d)
    rcases hk with hk | hk
    · exact hk hrtox
    · simp [hk] at hst
  | requestTime hst => exact keepsInv_ret (hinv.after_requestTime hst)

/-! ### Frames -/

theorem Inv.after_acceptBlockInitiator (h : Inv s) {inf : List Byte} (hcap : s.rxLen + inf.length ≤ s.params.rxCap) :
    Inv (acceptBlockInitiator inf s) :=
  ((h.after_append hcap).congr (u := advancePni (append inf s))).after_clearCounters

theorem rxBase_le (s : State) : rxBase s ≤ s.rxLen := by
  unfold rxBase
  split <;> omega

theorem Inv.after_acceptBlockTarget (h : Inv s) {inf : List Byte} (hcap : rxBase s + inf.length ≤ s.params.rxCap) :
    Inv (acceptBlockTarget inf s) :=
  ((h.restart (rxBase_le s)).after_append hcap).after_clearCounters

/-- The first request is queued by a Target with a right LEN, and opens the session (R208). -/
theorem Inv.after_queueRequest (h : Inv s) {bytes : List Byte} (hst : s.st = .tWaitActCompletion)
    (hlen : lengthAgrees bytes = true) : KeepsInv (queueRequest bytes s) := by
  have hqueued := h.enqueue (h.role.target (by rw [hst]; rfl)) hlen
  exact keepsInv_ret (hqueued.enter (hqueued.enterable_from (st := .tWaitActCompletion) (st' := .tDepRx) hst))

theorem Inv.after_acceptAtrRes (h : Inv s) (hst : s.st = .iAwaitAtrRes) {nfcid3 gb : List Byte}
    {did bs br tob pp : Byte} (hshape : (Instr.atrRes nfcid3 did bs br tob pp gb).shapeOk = true) :
    Inv (acceptAtrRes nfcid3 bs br tob pp gb s) := by
  obtain ⟨hid, hgb⟩ := shapeOk_atrRes.1 hshape
  have hrole : s.role = .initiator := h.role.initiator (by rw [hst]; rfl)
  exact ((h.setPeer hid hgb).setWt hrole (lowNibble tob).toNat).congr

/-- A decoded frame is well formed, and then so are the operands the invariant speaks of. -/
theorem FrameMove.keepsInv (h : FrameMove i s r) (hwf : i.wf = true) (hinv : Inv s) : KeepsInv r := by
  have hshape := shapeOk_of_wf hwf
  cases h with
  | move h => exact h.keepsInv hinv
  | queue i hst => exact hinv.after_queueRequest hst (Laws.EncodedLength.of_wf hwf)
  | atrReq hst hdid =>
    obtain ⟨hid, hgb⟩ := shapeOk_atrReq.1 hshape
    exact keepsInv_ret (((hinv.setPeer hid hgb).setDid hdid).goto_from (st' := .tSendAtrRes) hst).congr
  | atrResPsl hst =>
    have haccepted := hinv.after_acceptAtrRes hst hshape
    exact keepsInv_ret (haccepted.goto_from (st := .iAwaitAtrRes) hst)
  | atrResDone hst =>
    have haccepted := hinv.after_acceptAtrRes hst hshape
    exact keepsInv_ret (haccepted.enter (haccepted.enterable_from (st := .iAwaitAtrRes) (st' := .iActive) hst)).congr
  | pslReq hst => exact keepsInv_ret (hinv.enter (hinv.enterable_from (st' := .tDepRx) hst)).congr
  | pslRes hst => exact keepsInv_ret (hinv.enter (hinv.enterable_from (st' := .iActive) hst)).congr
  | deselect htakes => exact keepsInv_ret (hinv.after_closeTarget (.inl rfl) htakes _)
  | release htakes => exact keepsInv_ret (hinv.after_closeTarget (.inr rfl) htakes _)
  | closeInitiator hst =>
    rcases hst with hst | hst
    · exact keepsInv_ret (hinv.enter (hinv.enterable_from (st' := .idle) hst)).congr
    · exact keepsInv_ret (hinv.enter (hinv.enterable_from (st' := .idle) hst)).congr
  | ackNext hst => exact keepsInv_ret (hinv.after_clearCounters.goto_from (st := .iDepRx) (st' := .iDepTx) hst).congr
  | ackLast hst => exact keepsInv_ret (hinv.after_clearCounters.goto_from (st := .iDepRx) (st' := .iActive) hst).congr
  | responseChained d hst hcap =>
    have hstored := hinv.after_acceptBlockInitiator hcap
    exact keepsInv_ret (hstored.congr.after_sendDep (k := .ack) (Nat.zero_le _) (by simp) d)
  | responseFinal hst hcap =>
    have hstored := hinv.after_acceptBlockInitiator hcap
    exact keepsInv_ret (hstored.goto_from (st := .iDepRx) (st' := .iActive) (by simpa using hst)).congr
  | requestChained hst hcap =>
    have hstored := hinv.after_acceptBlockTarget hcap
    exact keepsInv_ret (hstored.congr.after_sendDep (k := .ack) (Nat.zero_le _) (by simp) .noDeadline).congr
  | requestFinal hst hcap =>
    have hstored := hinv.after_acceptBlockTarget hcap
    exact keepsInv_ret (hstored.goto_from (st := .tDepRx) (st' := .tRespPending) (by simpa using hst)).congr
  | nextDue hst => exact keepsInv_ret (hinv.after_clearCounters.goto_from (st := .tDepRx) (st' := .tDepTx) hst)
  | grantPending hst =>
    have hcleared := hinv.clearTxPending
    refine keepsInv_ret (hcleared.goto (hcleared.enterable (st' := .tDepTx) rfl ?_ rfl) ?_) <;> rw [hst] <;> rfl
  | grantWaiting hst htx =>
    refine keepsInv_ret (hinv.goto (hinv.enterable (st' := .tRespPending) htx ?_ rfl) ?_).congr <;> rw [hst] <;> rfl

/-! ### Commands -/

theorem length_padNfcid {nfcid : List Byte} (h : nfcid.length ≤ Config.nfcid3Len) :
    (padNfcid nfcid).length = Config.nfcid3Len := by
  rw [padNfcid, List.length_append, List.length_replicate]
  omega

/-- An unwritten buffer of valid length 0. -/
theorem bufferOk_nil (cap : Nat) : BufferOk [] 0 cap :=
  ⟨rfl, Nat.zero_le _, by simp, fun _ h => absurd h (Nat.not_lt_zero _)⟩

/-- The activation reset meets the invariant at any parameters (R361). -/
theorem inv_resetRegisters (s : State) : Inv (resetRegisters s) where
  role := ⟨fun _ => rfl, by simp [State.reset, isTargetSt]⟩
  session := rfl
  registers :=
    { did_le := Nat.zero_le _
      nad_zero := fun _ => rfl
      wt_initiator := fun _ => Nat.zero_le _
      wt_target := fun _ => Nat.zero_le _
      nfcid3_local := List.length_replicate
      nfcid3_peer := List.length_replicate
      gb_local := Nat.zero_le _
      gb_peer := Nat.zero_le _
      tx_pending := by simp [State.reset]
      pending_role := fun hne => absurd rfl hne
      pending_frame := fun hne => absurd rfl hne
      recorded := by simp [State.reset]
      last_frame := fun hne => absurd rfl hne
      last_type := fun hne => absurd rfl hne
      rtox_value := by simp [State.reset] }
  counters := fun c => by cases c <;> exact Nat.zero_le _
  buffers := ⟨bufferOk_nil _, Nat.le_refl _, bufferOk_nil _⟩

/-- Settles O14: power-on reset is the activation reset of itself. -/
theorem resetMeetsTheInvariant : Obligations.ResetMeetsTheInvariant := by
  unfold Obligations.ResetMeetsTheInvariant
  exact inv_resetRegisters State.reset

theorem initParamsOk_iff {p : Config.Params} {cfg : HostConfig} {atr : AtrParam} {br : Nat} :
    initParamsOk p cfg atr br = true ↔
      cfg.role = .initiator ∧ cfg.did.toNat ≤ p.didMax ∧ cfg.nad = 0 ∧ cfg.lr ≤ 3 ∧
        (chosenGb cfg atr).length ≤ 48 ∧ atr.nfcid.length ≤ 10 ∧ br ≤ 7 := by
  simp [initParamsOk, and_assoc, Config.gbMax, Config.nfcid3Len]

theorem targParamsOk_iff {cfg : HostConfig} {l : ListenParam} :
    targParamsOk cfg l = true ↔
      cfg.role = .target ∧ cfg.lr ≤ 3 ∧ cfg.generalBytes.length ≤ 48 ∧ l.nfcid.length ≤ 10 ∧ l.wt ≤ 15 := by
  simp [targParamsOk, and_assoc, Config.gbMax, Config.nfcid3Len]

/-- What R180 loads over the reset is in range where its operands pass. -/
theorem inv_loadInitiator {cfg : HostConfig} {atr : AtrParam} {br : Nat}
    (hok : initParamsOk s.params cfg atr br = true) : Inv (loadInitiator cfg atr br s) := by
  obtain ⟨-, hdid, -, -, hgb, hid, -⟩ := initParamsOk_iff.1 hok
  have hreset := inv_resetRegisters s
  exact
    { role := ⟨fun _ => rfl, by simp [loadInitiator, isTargetSt]⟩
      session := rfl
      registers :=
        { hreset.registers with
          did_le := hdid
          nad_zero := fun _ => rfl
          nfcid3_local := length_padNfcid hid
          gb_local := hgb
          tx_pending := by simp [loadInitiator, State.reset]
          recorded := by simp [loadInitiator]
          rtox_value := by simp [loadInitiator] }
      counters := hreset.counters
      buffers := ⟨hreset.buffers.tx, hreset.buffers.off_le, hreset.buffers.rx⟩ }

/-- What R200 loads over the reset is in range where its operands pass. -/
theorem inv_loadTarget {cfg : HostConfig} {l : ListenParam} (hok : targParamsOk cfg l = true) :
    Inv (loadTarget cfg l s) := by
  obtain ⟨-, -, hgb, hid, -⟩ := targParamsOk_iff.1 hok
  have hreset := inv_resetRegisters s
  exact
    { role := ⟨by simp [loadTarget, isInitiatorSt], fun _ => rfl⟩
      session := rfl
      registers :=
        { hreset.registers with
          nad_zero := by simp [loadTarget]
          wt_initiator := by simp [loadTarget]
          wt_target := fun _ => toNat_capWt_le _ _
          nfcid3_local := length_padNfcid hid
          gb_local := hgb
          tx_pending := by simp [loadTarget, State.reset]
          pending_role := fun hne => absurd rfl hne
          recorded := by simp [loadTarget]
          last_type := fun hne => absurd rfl hne
          rtox_value := by simp [loadTarget] }
      counters := hreset.counters
      buffers := ⟨hreset.buffers.tx, hreset.buffers.off_le, hreset.buffers.rx⟩ }

theorem exchangeOk_iff {data : List Byte} :
    exchangeOk data s = true ↔ data.length ≤ s.params.txCap ∧ (data ≠ [] ∨ emptyEn s = true) := by
  simp [exchangeOk]

theorem CommandMove.keepsInv (h : CommandMove s r) (hinv : Inv s) : KeepsInv r := by
  cases h with
  | refuse e => exact keepsInv_ret hinv
  | initActivate hok => exact keepsInv_ret (inv_loadInitiator hok)
  | targListen hok => exact keepsInv_ret (inv_loadTarget hok).congr
  | startInitiator hst hok =>
    have hloaded := (hinv.after_loadTxBuf (exchangeOk_iff.1 hok).1).after_clearCounters
    exact keepsInv_ret ((hloaded.restart (Nat.zero_le _)).goto_from (st := .iActive) (st' := .iDepTx) hst).congr
  | startTarget hst hok =>
    have hloaded := (hinv.after_loadTxBuf (exchangeOk_iff.1 hok).1).after_clearCounters
    exact keepsInv_ret (hloaded.goto_from (st := .tRespPending) (st' := .tDepTx) hst).congr
  | deferTarget hst hok => exact keepsInv_ret ((hinv.after_loadTxBuf (exchangeOk_iff.1 hok).1).setTxPending hst)
  | deactivate hst hst' =>
    rcases hst' with rfl | rfl
    · exact keepsInv_ret (hinv.goto_from hst)
    · exact keepsInv_ret (hinv.goto_from hst)

/-! ### The step -/

theorem StepMove.keepsInv (h : StepMove s r) (hinv : Inv s) : KeepsInv r := by
  induction h with
  | move h => exact h.keepsInv hinv
  | frame hwf h => exact h.keepsInv hwf hinv
  | queue hst hlen => exact hinv.after_queueRequest hst hlen
  | dequeue _ ih => exact ih hinv.dequeue
  | command h => exact h.keepsInv hinv

/-- Settles O55: consuming the input leaves what the invariant reads, and every move keeps it. -/
theorem stepKeepsTheInvariant : Obligations.StepKeepsTheInvariant := by
  unfold Obligations.StepKeepsTheInvariant
  intro s t hinv hstep
  have hbegin : Inv (beginStep s) := hinv.congr
  exact (stepMove_step s).keepsInv hbegin t hstep

end Sys2Proof.Machine
end

section
/-! SUPPORT. Reset, the step on a received frame, and the activation of both roles (10_state.md R46, 42_activation.md). -/

namespace Sys2Proof.Machine

variable {s : State}

/-- Settles O13: the listed values are those of the reset record, and the first step is a Poll in `IDLE`. -/
theorem resetLeavesTheListedValues : Obligations.ResetLeavesTheListedValues := by
  unfold Obligations.ResetLeavesTheListedValues
  have hcounters : ∀ c, counterOf c State.reset = 0 := fun c => by cases c <;> rfl
  exact ⟨⟨rfl, rfl, rfl, rfl, rfl, rfl⟩, ⟨rfl, rfl, rfl, rfl, rfl⟩,
    ⟨rfl, rfl, rfl, rfl, rfl, rfl, rfl, rfl, rfl, rfl, rfl⟩, ⟨rfl, rfl, rfl, rfl, rfl, rfl⟩, hcounters,
    ⟨rfl, rfl, rfl, rfl, rfl, rfl⟩, rfl⟩

/-! ### The step, by input -/

theorem step_presenting_decoded {bytes : List Byte} {i : Instr} (h : decode bytes = .ok i) (d : Bool) (s : State) :
    step (presenting (.rf (.ok bytes)) d s) = exec i { s with actions := [] } := by
  rw [step_presenting_ok, receiveFrame_of_ok h]

theorem step_presenting_cmd (c : Cmd) (d : Bool) (s : State) :
    step (presenting (.cmd c) d s) = command c { s with actions := [] } := rfl

/-- Settles O15: a frame that decodes is the work of running its instruction. -/
theorem stepRunsTheReceivedInstruction : Obligations.StepRunsTheReceivedInstruction := by
  unfold Obligations.StepRunsTheReceivedInstruction
  exact fun _ _ d s h => step_presenting_decoded h d s

/-! ### Activation commands (R180, R200) -/

/-- Settles O17: the operand check is R180's, and what is loaded is written out. -/
theorem initActivateLoadsOrRefuses : Obligations.InitActivateLoadsOrRefuses := by
  unfold Obligations.InitActivateLoadsOrRefuses
  intro cfg atr br d s gb ok
  have hok : initParamsOk s.params cfg atr br = true ↔ ok := initParamsOk_iff
  rw [step_presenting_cmd, command, cmdInitActivate]
  constructor
  · intro h
    rw [if_pos (hok.2 h)]
    rfl
  · intro h
    rw [if_neg (mt hok.1 h)]
    rfl

/-- Settles O18: as O17, with R200 for the check and the registers. -/
theorem targListenLoadsOrRefuses : Obligations.TargListenLoadsOrRefuses := by
  unfold Obligations.TargListenLoadsOrRefuses
  intro cfg l d s ok
  have hok : targParamsOk cfg l = true ↔ ok := targParamsOk_iff
  rw [step_presenting_cmd, command, cmdTargListen]
  constructor
  · intro h
    rw [if_pos (hok.2 h)]
    rfl
  · intro h
    rw [if_neg (mt hok.1 h)]
    rfl

/-! ### ATR (R189, R190, R203) -/

/-- Settles O19: the DID is legal, so R203 accepts. -/
theorem atrReqLoadsThePeer : Obligations.AtrReqLoadsThePeer := by
  unfold Obligations.AtrReqLoadsThePeer
  intro nfcid3 did bs br pp gb s hst hdid
  rw [exec, execAtrReq_of_tWaitAtr hst, if_pos hdid]
  rfl

theorem minLr_eq_ofNat (a b : BitVec 2) : minLr a b = BitVec.ofNat 2 (min a.toNat b.toNat) := by
  revert a b
  decide

/-- R190 in words. -/
theorem brSupported_iff {code : BitVec 3} {bs br : BitVec 4} :
    brSupported code bs br = true ↔
      code.toNat ≤ 2 ∨ (code.toNat ≤ 6 ∧ bs.getLsbD (code.toNat - 3) = true ∧ br.getLsbD (code.toNat - 3) = true) := by
  unfold brSupported
  split_ifs with hlow hmid
  · simp [hlow]
  · simp [hlow, hmid]
  · simp [hlow, hmid]

theorem needPsl_iff {bs br : BitVec 4} :
    needPsl bs br s = true ↔
      (s.desiredBr ≠ s.bitrateSend ∨ s.desiredBr ≠ s.bitrateRecv) ∧ brSupported s.desiredBr bs br = true := by
  simp [needPsl]

/-- Settles O20: the DID is the one sent, so R189 accepts, and `need_psl` tells the two ways on. -/
theorem atrResCompletesOrNegotiates : Obligations.AtrResCompletesOrNegotiates := by
  unfold Obligations.AtrResCompletesOrNegotiates
  intro nfcid3 bs br tob pp gb s hst code supported need t
  have hneed : needPsl (lowNibble bs) (lowNibble br) s = true ↔ need :=
    needPsl_iff.trans (and_congr_right fun _ => brSupported_iff)
  have haccept : acceptAtrRes nfcid3 bs br tob pp gb s = t := by
    rw [acceptAtrRes, minLr_eq_ofNat]
    rfl
  rw [exec, execAtrRes, if_pos hst, if_pos rfl, haccept]
  constructor
  · intro h
    rw [if_pos (hneed.2 h)]
    rfl
  · intro h
    rw [if_neg (mt hneed.1 h)]
    rfl

/-! ### PSL (R192, R193, R207) -/

theorem pslRecv_eq (dir : Config.BrsDir) (brs : Byte) :
    pslRecv dir brs = if dir = .dsiInitiatorToTarget then brsDsi brs else brsDri brs := by
  cases dir <;> rfl

theorem pslSend_eq (dir : Config.BrsDir) (brs : Byte) :
    pslSend dir brs = if dir = .dsiInitiatorToTarget then brsDri brs else brsDsi brs := by
  cases dir <;> rfl

/-- Settles O23: the DID byte due is `pslDid`, and R207's actions follow each other. -/
theorem pslReqUpdatesTheTarget : Obligations.PslReqUpdatesTheTarget := by
  unfold Obligations.PslReqUpdatesTheTarget
  intro did brs fsl s hst due dsi dri recv send lr
  have hrecv : pslRecv s.params.brsDir brs = recv := pslRecv_eq _ _
  have hsend : pslSend s.params.brsDir brs = send := pslSend_eq _ _
  have hdue : pslDid s = due := rfl
  rw [exec, execPslReq, if_pos hst, acceptPslReq, hrecv, hsend, hdue]
  split
  · rfl
  · rfl

theorem raisesUnexpected_of_iAwaitPslRes (h : s.st = .iAwaitPslRes) : RaisesUnexpected s.st :=
  h ▸ ⟨rfl, .inl rfl⟩

/-- In `I_AWAIT_PSL_RES` every frame but a PSL_RES with the DID byte due is a ProtocolError (R192). -/
theorem exec_iAwaitPslRes_of_ne (h : s.st = .iAwaitPslRes) {i : Instr}
    (hne : ∀ trail, i ≠ .pslRes ((pslDid s).toList ++ trail)) : exec i s = raise .protocolError s := by
  cases i with
  | pslRes body =>
    have hdid : ¬ pslResDidOk body s = true := fun hok => by
      obtain ⟨trail, rfl⟩ := (pslResDidOk_iff body s).1 hok
      exact hne trail rfl
    rw [exec, execPslRes, if_pos h, if_neg hdid]
  | _ => exact exec_of_raises (raisesUnexpected_of_iAwaitPslRes h) (by rw [h]; rfl)

/-- Settles O24: the DID byte due comes first, whatever follows; every other frame is raised on and lands in `IDLE`. -/
theorem pslResCompletesActivationOrIsFatal : Obligations.PslResCompletesActivationOrIsFatal := by
  unfold Obligations.PslResCompletesActivationOrIsFatal
  intro s hst due
  have hdue : pslDid s = due := rfl
  constructor
  · intro trail
    rw [exec, execPslRes, if_pos hst, if_pos ((pslResDidOk_iff _ s).2 ⟨trail, by rw [hdue]⟩)]
    rfl
  · intro bytes d hlen hne
    rw [step_of_unaccepted (raisesUnexpected_of_iAwaitPslRes hst) hlen, hst]
    · rfl
    · intro i hdecode
      exact exec_iAwaitPslRes_of_ne (s := { s with actions := [] }) hst fun trail hi => hne trail (hi ▸ hdecode)

/-! ### The first request (R206, R208) -/

theorem onDepReq_of_tWaitActCompletion (h : s.st = .tWaitActCompletion) (frame : List Byte) (did nad : Option Byte)
    (inDepRx inAwaitRtox : State → Result) :
    onDepReq frame did nad inDepRx inAwaitRtox s = queueRequest frame s :=
  if_pos h

/-- A DEP_REQ that decodes is queued as the frame it was read from. -/
theorem exec_depReq_of_tWaitActCompletion (h : s.st = .tWaitActCompletion) {i : Instr} (hkind : i.kind = .depReq) :
    exec i s = queueRequest (encode i) s := by
  cases i with
  | depReqI | depReqAck | depReqNack | depReqAtn | depReqRtox => exact onDepReq_of_tWaitActCompletion h _ _ _ _ _
  | _ => cases hkind

theorem receiveFrame_depReq_of_tWaitActCompletion (h : s.st = .tWaitActCompletion) {bytes : List Byte}
    (hlen : lengthAgrees bytes = true) (hkind : frameKind bytes = some .depReq) :
    (receiveFrame bytes s).outcome = queueRequest bytes s := by
  cases hdecode : decode bytes with
  | ok i =>
    have henc : encode i = bytes := (encode_of_decode hdecode).1
    have hi : i.kind = .depReq := by
      rw [← henc, frameKind_encode] at hkind
      exact Option.some.inj hkind
    rw [receiveFrame_of_ok hdecode, exec_depReq_of_tWaitActCompletion h hi, henc]
  | error why =>
    have hwhy : why ≠ .malformed := fun hm => decode_ne_malformed hlen (hm ▸ hdecode)
    rw [receiveFrame_of_error hdecode, badFrame, if_neg hwhy, if_pos ⟨h, hkind⟩]

/-- Settles O25: whether its body decodes or not, the frame is queued byte for byte. -/
theorem firstDepReqIsQueued : Obligations.FirstDepReqIsQueued := by
  unfold Obligations.FirstDepReqIsQueued
  intro bytes d s hst hlen hkind
  rw [step_presenting_ok, receiveFrame_depReq_of_tWaitActCompletion (s := { s with actions := [] }) hst hlen hkind]
  rfl

end Sys2Proof.Machine
end

section
/-! SUPPORT. A DEP frame sent and recorded, by class (41_sequencing_chaining_counters.md R160), and a retry as a test of
its counter (00_scope.md R16). -/

namespace Sys2Proof.Machine

variable {s : State}

/-- An I-PDU, an ACK or a NACK is recorded whole. -/
theorem sendDep_recorded {k : DepKind} {payload f : List Byte} (hatn : k ≠ .atn) (hrtox : k ≠ .rtox)
    (hf : encodeDep k payload s = f) (d : Deadline) :
    sendDep k payload d s =
      { s with
        actions := s.actions ++ [.rfTxRx f d]
        lastPfb := some (framePfb f)
        lastPfbExcludingAtn := some (framePfb f)
        lastFrame := f
        lastDeadline := d } := by
  rw [sendDep_eq, hf]
  simp only [if_neg hatn, if_neg hrtox]

/-- An ATN leaves the record of the last other frame. -/
theorem sendDep_atn {payload f : List Byte} (hf : encodeDep .atn payload s = f) (d : Deadline) :
    sendDep .atn payload d s =
      { s with actions := s.actions ++ [.rfTxRx f d], lastPfb := some (framePfb f) } := by
  rw [sendDep_eq, hf]
  rfl

/-- An RTOX is recorded with its value. -/
theorem sendDep_rtox {v : Byte} {f : List Byte} (hf : encodeDep .rtox [v] s = f) (d : Deadline) :
    sendDep .rtox [v] d s =
      { s with
        actions := s.actions ++ [.rfTxRx f d]
        lastPfb := some (framePfb f)
        lastPfbExcludingAtn := some (framePfb f)
        lastFrame := f
        lastDeadline := d
        lastRtoxValue := v } := by
  rw [sendDep_eq, getLastD_encodeDep_rtox, hf]
  rfl

theorem withRetry_eq (c : Counter) (exhausted allowed : State → Result) (s : State) :
    withRetry c exhausted allowed s =
      if ceilingOf c s.params ≤ counterOf c s then exhausted s else allowed (bump c s) := by
  unfold withRetry retry
  split_ifs <;> rfl

end Sys2Proof.Machine
end

section
/-! SUPPORT. The data exchange of an Initiator in `I_DEP_RX`: the responses (43_dep_initiator.md sections 3 to 5) and the
Recovery Supervisor (section 6). -/

namespace Sys2Proof.Machine

variable {s : State}

/-! ### DEP_RES.ACK and DEP_RES.ATN -/

/-- Settles O27: the PNI matches, and `tx_chaining` tells the next block from the end. -/
theorem matchingAckAdvances : Obligations.MatchingAckAdvances := by
  unfold Obligations.MatchingAckAdvances
  intro trail s hst
  rw [exec, execDepResAck, onDepRes_of_session hst, initiatorAck, if_pos (pniOk_self s)]
  by_cases hmore : s.txChaining = true
  · rw [if_pos hmore, if_pos hmore, if_pos hmore]
    rfl
  · rw [if_neg hmore, if_neg hmore, if_neg hmore]
    rfl

/-- Retransmission in `I_DEP_RX`: with a frame recorded and a retry left, else ProtocolError (log 9). -/
theorem boundedRetransmit_of_iDepRx (h : s.st = .iDepRx) :
    boundedRetransmit s =
      if s.lastFrame ≠ [] ∧ s.txRetries < s.params.txRetryMax then
        .next
          { s with
            txRetries := s.txRetries + 1
            actions := s.actions ++ [.rfTxRx s.lastFrame s.lastDeadline]
            lastPfb := s.lastPfbExcludingAtn
            status := .inProgress }
      else .next (raised .protocolError .iActive s) := by
  rw [boundedRetransmit, withRetry_eq, raise_of_iDepRx h]
  by_cases hframe : s.lastFrame = []
  · simp [hasLastFrame, hframe]
  · by_cases hleft : s.txRetries < s.params.txRetryMax
    · have hlt : ¬ ceilingOf .tx s.params ≤ counterOf .tx s := Nat.not_le.2 hleft
      rw [if_pos (by simpa [hasLastFrame] using hframe), if_neg hlt, if_pos ⟨hframe, hleft⟩]
      rfl
    · have hle : ceilingOf .tx s.params ≤ counterOf .tx s := Nat.not_lt.1 hleft
      rw [if_pos hle, ite_self, if_neg fun hboth => hleft hboth.2]

/-- One below the expected PNI is the previous one (R152). -/
theorem pni_sub_one (p : Pni) : p - 1 = pniDec p := by
  revert p
  decide

theorem pniPrev_iff {p : Pni} : pniPrev p s = true ↔ p = s.pni - 1 := by
  rw [pniPrev, beq_iff_eq, pni_sub_one s.pni]

theorem initiatorAck_previous (s : State) : initiatorAck (s.pni - 1) s = boundedRetransmit s := by
  have hok : ¬ pniOk (s.pni - 1) s = true := by simp [pniOk]
  rw [initiatorAck, if_neg hok, if_pos (pniPrev_iff.2 rfl)]

/-- Settles O28: both PDUs lead to the one bounded retransmission, the ATN where an ATN was sent. -/
theorem retransmissionIsBounded : Obligations.RetransmissionIsBounded := by
  unfold Obligations.RetransmissionIsBounded
  intro low trail s hst again
  constructor
  · rw [exec, execDepResAck, onDepRes_of_session hst, initiatorAck_previous, boundedRetransmit_of_iDepRx hst]
  · rw [exec, execDepResAtn, onDepRes_of_session hst, initiatorAtn]
    by_cases hatn : lastWasAtn s = true
    · simp only [hatn, if_true, true_and, boundedRetransmit_of_iDepRx hst]
      rfl
    · rw [if_neg hatn, if_neg fun h => hatn h.1, raise_of_iDepRx hst]

/-! ### DEP_RES.I -/

/-- The verified response block, whole (R231, R232). -/
theorem acceptBlockInitiator_eq (inf : List Byte) (s : State) :
    acceptBlockInitiator inf s =
      { s with
        rxAcc := s.rxAcc.writeBytes s.rxLen inf
        rxLen := s.rxLen + inf.length
        pni := s.pni + 1
        txRetries := 0
        timeoutRetries := 0
        rtoxRetries := 0
        nackRetries := 0
        atnRetries := 0 } := rfl

/-- Settles O30: past the checks the block is appended, and the ACK carries the PNI already moved on. -/
theorem chainedResponseIsAcknowledged : Obligations.ChainedResponseIsAcknowledged := by
  unfold Obligations.ChainedResponseIsAcknowledged
  intro inf s hst hrole hempty hcap f
  have hrole' : ({ acceptBlockInitiator inf s with rxChaining := true } : State).role = .initiator := by
    simpa [acceptBlockInitiator] using hrole
  have hf : encodeDep .ack [] { acceptBlockInitiator inf s with rxChaining := true } = f :=
    encodeDep_of_initiator hrole' .ack []
  rw [exec, execDepResI, onDepRes_of_session hst, initiatorInfo_of_checked hempty hcap, if_pos rfl,
    sendDep_recorded (by simp) (by simp) hf, acceptBlockInitiator_eq]
  rfl

/-- Settles O32: PNI, then emptiness, then capacity, each on the state as received. -/
theorem responseBlockChecksPrecedeWrites : Obligations.ResponseBlockChecksPrecedeWrites := by
  unfold Obligations.ResponseBlockChecksPrecedeWrites
  intro mi pni inf s hst
  rw [exec, execDepResI, onDepRes_of_session hst, initiatorInfo]
  constructor
  · rintro (hpni | hempty)
    · rw [if_pos (by simpa [pniOk] using hpni), raise_of_iDepRx hst]
    · have hchecked : inf = [] ∧ emptyEn s = false := hempty
      rw [if_pos hchecked, ite_self, raise_of_iDepRx hst]
  · intro hpni hempty hcap
    have hnotEmpty : ¬ (inf = [] ∧ emptyEn s = false) := fun ⟨hinf, hoff⟩ => by
      rcases hempty with hne | hon
      · exact hne hinf
      · exact Bool.false_ne_true (hoff.symm.trans hon)
    rw [if_neg (by simp [pniOk, hpni]), if_neg hnotEmpty, if_pos hcap, raise_of_iDepRx hst]

/-! ### DEP_RES.RTOX -/

/-- The grant echoes the value with the longer deadline (R164, R234). -/
theorem sendDep_rtox_grant (hrole : s.role = .initiator) (v : Byte) :
    sendDep .rtox [v] (rtoxDeadline v s) s =
      { s with
        actions := s.actions ++ [.rfTxRx (encode (.depReqRtox 0 (optByte s.did) (optByte s.nad) v [])) (rtoxDeadline v s)]
        lastPfb := some (framePfb (encode (.depReqRtox 0 (optByte s.did) (optByte s.nad) v [])))
        lastPfbExcludingAtn := some (framePfb (encode (.depReqRtox 0 (optByte s.did) (optByte s.nad) v [])))
        lastFrame := encode (.depReqRtox 0 (optByte s.did) (optByte s.nad) v [])
        lastDeadline := rtoxDeadline v s
        lastRtoxValue := v } :=
  sendDep_rtox (encodeDep_of_initiator hrole .rtox [v]) _

/-- Settles O33: an ATN outstanding, an illegal value or an exhausted counter is the error; else the echo. -/
theorem rtoxIsGrantedByEcho : Obligations.RtoxIsGrantedByEcho := by
  unfold Obligations.RtoxIsGrantedByEcho
  intro low v trail s hst hrole f deadline
  rw [exec, execDepResRtox, onDepRes_of_session hst]
  by_cases hatn : lastWasAtn s = true
  · rw [initiatorRtox, if_pos hatn, if_neg fun h => by simp [hatn] at h, raise_of_iDepRx hst]
  · by_cases hv : rtoxValid v = true
    · obtain ⟨hlo, hhi⟩ := rtoxValid_iff.1 hv
      rw [initiatorRtox, if_neg hatn, if_neg (by simp [hv]), withRetry_eq]
      by_cases hleft : s.rtoxRetries < 10
      · have hlt : ¬ ceilingOf .rtox s.params ≤ counterOf .rtox s := Nat.not_le.2 hleft
        have hrole' : (bump .rtox s).role = .initiator := by rwa [bump_role]
        rw [if_neg hlt, sendDep_rtox_grant hrole', if_pos ⟨Bool.eq_false_iff.2 hatn, hlo, hhi, hleft⟩]
        rfl
      · have hle : ceilingOf .rtox s.params ≤ counterOf .rtox s := Nat.not_lt.1 hleft
        rw [if_pos hle, if_neg fun h => hleft h.2.2.2, raise_of_iDepRx hst]
    · rw [initiatorRtox_of_invalid hv, if_neg fun h => hv (rtoxValid_iff.2 ⟨h.2.1, h.2.2.1⟩), raise_of_iDepRx hst]

/-! ### The Recovery Supervisor -/

/-- The NACK under its ceiling, past which the error is Framing (R242, R243). -/
theorem sendNack_of_iDepRx (hst : s.st = .iDepRx) (hrole : s.role = .initiator) :
    let f := encode (.depReqNack s.pni (optByte s.did) (optByte s.nad) [])
    sendNack s =
      if 3 ≤ s.nackRetries then .next (raised (.transmission .framing) .iActive s)
      else
        .next
          { s with
            nackRetries := s.nackRetries + 1
            actions := s.actions ++ [.rfTxRx f (depDeadline s)]
            lastPfb := some (framePfb f)
            lastPfbExcludingAtn := some (framePfb f)
            lastFrame := f
            lastDeadline := depDeadline s
            status := .inProgress } := by
  intro f
  have hf : encodeDep .nack [] (bump .nack s) = f := encodeDep_of_initiator (s := bump .nack s) hrole .nack []
  rw [sendNack, withRetry_eq, raise_of_iDepRx hst, sendDep_recorded (by simp) (by simp) hf]
  rfl

/-- The ATN where it is enabled, under its ceiling (R241). -/
theorem sendAtn_of_iDepRx (hst : s.st = .iDepRx) (hrole : s.role = .initiator) :
    let f := encode (.depReqAtn 0 (optByte s.did) (optByte s.nad) [])
    sendAtn s =
      if s.oper.getLsbD 1 = false then .next (raised .timeout .iActive s)
      else if 3 ≤ s.atnRetries then .next (raised .protocolError .iActive s)
      else
        .next
          { s with
            atnRetries := s.atnRetries + 1
            actions := s.actions ++ [.rfTxRx f (depDeadline s)]
            lastPfb := some (framePfb f)
            status := .inProgress } := by
  intro f
  have hf : encodeDep .atn [] (bump .atn s) = f := encodeDep_of_initiator (s := bump .atn s) hrole .atn []
  rw [sendAtn, withRetry_eq, raise_of_iDepRx hst, raise_of_iDepRx hst, sendDep_atn hf]
  change _ = if atnEn s = false then _ else _
  cases atnEn s <;> rfl

/-- R240: the level, the timeout counter, then what the last PDU was. -/
theorem recoverTimeout_of_iDepRx (hst : s.st = .iDepRx) (d : Bool) :
    recoverTimeout d s =
      if d then .next (raised .timeout .iActive s)
      else if 3 ≤ s.timeoutRetries then .next (raised .protocolError .iActive s)
      else if lastWasNack s then sendNack (bump .timeout s) else sendAtn (bump .timeout s) := by
  rw [recoverTimeout, withRetry_eq, raise_of_iDepRx hst, raise_of_iDepRx hst]
  rfl

/-- The step on a timeout in `I_DEP_RX`. -/
theorem step_timeout_of_iDepRx (hst : s.st = .iDepRx) (n : Nat) (d : Bool) :
    step (presenting (.rf (.err .timeout n)) d s) = recoverTimeout d { s with actions := [] } := by
  rw [step_presenting_err, rfError_timeout_of_iDepRx (s := { s with actions := [] }) hst]

/-- Settles O35: R240's tests, then R241. -/
theorem timeoutSendsAttention : Obligations.TimeoutSendsAttention := by
  unfold Obligations.TimeoutSendsAttention
  intro n d s hst hrole hnack f s0 s1
  have hnack0 : ¬ lastWasNack s0 = true := by simpa [lastWasNack, s0] using hnack
  rw [step_timeout_of_iDepRx hst, recoverTimeout_of_iDepRx (s := s0) hst, if_neg hnack0,
    sendAtn_of_iDepRx (s := bump .timeout s0) hst hrole]
  rfl

/-- Settles O36: R240's tests, then R242. -/
theorem timeoutAfterNackResendsIt : Obligations.TimeoutAfterNackResendsIt := by
  unfold Obligations.TimeoutAfterNackResendsIt
  intro n d s hst hrole hnack f s0 s1
  have hnack0 : lastWasNack s0 = true := hnack
  rw [step_timeout_of_iDepRx hst, recoverTimeout_of_iDepRx (s := s0) hst, if_pos hnack0,
    sendNack_of_iDepRx (s := bump .timeout s0) hst hrole]
  rfl

/-- Settles O37: the policy first, then the NACK, at either level. -/
theorem transmissionErrorIsAnsweredByNack : Obligations.TransmissionErrorIsAnsweredByNack := by
  unfold Obligations.TransmissionErrorIsAnsweredByNack
  intro k n d s hst hrole f s0
  have hrecover : rfError (.transmission k) n d s0 = recoverTransmission n s0 := by
    simp only [rfError, show s0.st = .iDepRx from hst]
  rw [step_presenting_err, hrecover, recoverTransmission, sendNack_of_iDepRx (s := s0) hst hrole]
  rfl

end Sys2Proof.Machine
end

section
/-! SUPPORT. DEP_REQ at a Target in its two data states, `T_DEP_RX` and `T_AWAIT_RTOX_RES` (44_dep_target.md R263 to
R274): the header, the last frame again, and the five classes. -/

namespace Sys2Proof.Machine

variable {s : State}

/-! ### The header of a DEP_REQ (40_codec.md R133) -/

/-- A DEP_REQ with the session's DID and NAD is processed by its class. -/
theorem onDepReq_of_tDepRx (h : s.st = .tDepRx) (frame : List Byte) (inDepRx inAwaitRtox : State → Result) :
    onDepReq frame (optByte s.did) (optByte s.nad) inDepRx inAwaitRtox s = inDepRx s := by
  rw [onDepReq, if_neg (by simp [h]), if_pos h, if_pos (headerOk_session s)]

theorem onDepReq_of_tAwaitRtoxRes (h : s.st = .tAwaitRtoxRes) (frame : List Byte)
    (inDepRx inAwaitRtox : State → Result) :
    onDepReq frame (optByte s.did) (optByte s.nad) inDepRx inAwaitRtox s = inAwaitRtox s := by
  rw [onDepReq, if_neg (by simp [h]), if_neg (by simp [h]), if_pos h, if_pos (headerOk_session s)]

/-- A class that both data states treat alike. -/
theorem onDepReq_of_dataState (h : s.st = .tDepRx ∨ s.st = .tAwaitRtoxRes) (frame : List Byte)
    (body : State → Result) : onDepReq frame (optByte s.did) (optByte s.nad) body body s = body s :=
  h.elim (onDepReq_of_tDepRx · frame body body) (onDepReq_of_tAwaitRtoxRes · frame body body)

/-- A DEP_REQ whose DID or NAD disagrees is ignored, whatever its class. -/
theorem onDepReq_of_header_ne (h : s.st = .tDepRx ∨ s.st = .tAwaitRtoxRes) {did nad : Option Byte}
    (hne : did ≠ optByte s.did ∨ nad ≠ optByte s.nad) (frame : List Byte) (inDepRx inAwaitRtox : State → Result) :
    onDepReq frame did nad inDepRx inAwaitRtox s = ignore s := by
  have hheader : ¬ headerOk did nad s = true := by
    simpa [headerOk, imp_iff_not_or] using hne
  rcases h with h | h
  · rw [onDepReq, if_neg (by simp [h]), if_pos h, if_neg hheader]
  · rw [onDepReq, if_neg (by simp [h]), if_neg (by simp [h]), if_pos h, if_neg hheader]

/-! ### The last frame again (R161, log 9) -/

theorem hasLastFrame_iff : hasLastFrame s = true ↔ s.lastFrame ≠ [] := by
  simp [hasLastFrame]

/-- After an ATN round, the previous PNI asks for the last frame, if there is one (R265, R268). -/
theorem repeatAfterAtn_eq (pni : Pni) (s : State) :
    repeatAfterAtn pni s =
      if lastWasAtn s = true ∧ pni = s.pni - 1 ∧ s.lastFrame ≠ [] then ret .inProgress (retransmit s)
      else .next (rearmed s) := by
  simp only [repeatAfterAtn, retransmitOrIgnore, pniPrev_iff, hasLastFrame_iff, ignore_eq_rearmed]
  by_cases hround : lastWasAtn s = true ∧ pni = s.pni - 1
  · simp only [hround.1, hround.2, true_and, if_true]
  · rw [if_neg hround, if_neg fun h => hround ⟨h.1, h.2.1⟩]

/-- Settles O41: the NACK's class is the last frame again, in both states. -/
theorem nackRepeatsTheLastFrame : Obligations.NackRepeatsTheLastFrame := by
  unfold Obligations.NackRepeatsTheLastFrame
  intro pni trail s hst
  rw [exec, execDepReqNack, onDepReq_of_dataState hst, retransmitOrIgnore]
  by_cases hframe : s.lastFrame = []
  · rw [if_neg (by simp [hasLastFrame, hframe]), if_pos hframe, ignore_eq_rearmed]
  · rw [if_pos (hasLastFrame_iff.2 hframe), if_neg hframe]
    rfl

/-- Settles O40: in `T_DEP_RX` the block is not accepted; in `T_AWAIT_RTOX_RES` none is. -/
theorem repeatedRequestIsAnsweredAgain : Obligations.RepeatedRequestIsAnsweredAgain := by
  unfold Obligations.RepeatedRequestIsAnsweredAgain
  intro mi pni inf s again
  constructor
  · intro hst hrefused
    have hnot : ¬ (s.txChaining = false ∧ pniOk pni s = true) := by
      rintro ⟨hchain, hpni⟩
      rcases hrefused with hchaining | hne
      · simp [hchain] at hchaining
      · exact hne (by simpa [pniOk] using hpni)
    rw [exec, execDepReqI, onDepReq_of_tDepRx hst, targetInfo, if_neg hnot, repeatAfterAtn_eq]
    rfl
  · intro hst
    rw [exec, execDepReqI, onDepReq_of_tAwaitRtoxRes hst, targetInfoAwaitingRtox, retransmitOrIgnore]
    by_cases hpni : pni = s.pni
    · simp only [hpni, pniOk_self, hasLastFrame_iff, if_true, true_and]
      rfl
    · rw [if_neg (by simpa [pniOk] using hpni), if_neg fun h => hpni h.1, ignore_eq_rearmed]

/-! ### DEP_REQ.ACK, ATN and RTOX -/

theorem pniOk_iff {pni : Pni} : pniOk pni s = true ↔ pni = s.pni := by
  simp [pniOk]

/-- Settles O39: a matching PNI in a chained response is due the next block; else R268 (b), or ignored. -/
theorem requestAckContinuesOrRepeats : Obligations.RequestAckContinuesOrRepeats := by
  unfold Obligations.RequestAckContinuesOrRepeats
  intro pni trail s
  constructor
  · intro hst
    rw [exec, execDepReqAck, onDepReq_of_tDepRx hst]
    simp only [targetAck, pniOk_iff, repeatAfterAtn_eq]
    rfl
  · intro hst
    rw [exec, execDepReqAck, onDepReq_of_tAwaitRtoxRes hst, ignore_eq_rearmed]

/-- Settles O42: the ATN class, in both states. -/
theorem attentionIsAnswered : Obligations.AttentionIsAnswered := by
  unfold Obligations.AttentionIsAnswered
  intro low trail s hst hrole f
  have hf : encodeDep .atn [] s = f := encodeDep_of_target hrole .atn []
  rw [exec, execDepReqAtn, onDepReq_of_dataState hst, targetAtn, sendDep_atn hf]
  rfl

/-- Settles O43: the grant is the value requested; what goes on then turns on the host's response. -/
theorem rtoxGrantIsTaken : Obligations.RtoxGrantIsTaken := by
  unfold Obligations.RtoxGrantIsTaken
  intro low v trail s
  constructor
  · intro hst
    rw [exec, execDepReqRtox, onDepReq_of_tAwaitRtoxRes hst, targetRtox, ite_not]
    rfl
  · intro hst
    rw [exec, execDepReqRtox, onDepReq_of_tDepRx hst, ignore_eq_rearmed]

/-! ### DEP_REQ.I in sequence -/

/-- The engine waits for the next request (60_exceptions.md R341). -/
theorem raise_of_tDepRx (h : s.st = .tDepRx) (e : Err) : raise e s = .next (raised e .tDepRx s) := by
  rw [raise_eq_raised, h]
  rfl

/-- The accepted request block, whole (R266, R267). -/
theorem acceptBlockTarget_eq (inf : List Byte) (s : State) :
    acceptBlockTarget inf s =
      { s with
        rxAcc := s.rxAcc.writeBytes (rxBase s) inf
        rxLen := rxBase s + inf.length
        txRetries := 0
        timeoutRetries := 0
        rtoxRetries := 0
        nackRetries := 0
        atnRetries := 0 } := rfl

/-- Settles O38: EMPTY_EN, the capacity, then MI. -/
theorem requestBlockIsAccepted : Obligations.RequestBlockIsAccepted := by
  unfold Obligations.RequestBlockIsAccepted
  intro mi inf s hst hrole hchain base f stored
  have hrole' : ({ acceptBlockTarget inf s with rxChaining := true } : State).role = .target := by
    simpa [acceptBlockTarget] using hrole
  have hf : encodeDep .ack [] { acceptBlockTarget inf s with rxChaining := true } = f :=
    encodeDep_of_target hrole' .ack []
  rw [exec, execDepReqI, onDepReq_of_tDepRx hst, targetInfo, if_pos ⟨hchain, pniOk_self s⟩, raise_of_tDepRx hst,
    sendDep_recorded (by simp) (by simp) hf, acceptBlockTarget_eq]
  cases mi <;> rfl

end Sys2Proof.Machine
end

section
/-! SUPPORT. What a waiting Target does with the rest: RF errors, Malformed frames, frames it cannot use
(44_dep_target.md R261 to R263). -/

namespace Sys2Proof.Machine

variable {s : State}

theorem rfError_of_target (hwaits : waitsForRf s.st = true) (htarget : isTargetSt s.st = true) (e : RfErr) (n : Nat)
    (d : Bool) : rfError e n d s = targetRfError e s := by
  rcases rfError_cases e n d s with ⟨hnot, -⟩ | ⟨-, -, heq⟩ | ⟨-, hini, -⟩
  · simp [hwaits] at hnot
  · exact heq
  · cases hst : s.st <;> simp [hst, isInitiatorSt, isTargetSt] at hini htarget

/-- The states of a Target past ATR_REQ that wait for a frame. -/
def IgnoresUnexpected (st : St) : Prop := st = .tWaitActCompletion ∨ st = .tDepRx ∨ st = .tAwaitRtoxRes

theorem IgnoresUnexpected.waits_target {st : St} (h : IgnoresUnexpected st) :
    waitsForRf st = true ∧ isTargetSt st = true := by
  rcases h with rfl | rfl | rfl <;> exact ⟨rfl, rfl⟩

theorem unexpected_of_ignores (h : IgnoresUnexpected s.st) : unexpected s = .next (rearmed s) := by
  rcases h with h | h | h <;> simp only [unexpected, h, ignore_eq_rearmed]

theorem exec_of_ignores (h : IgnoresUnexpected s.st) {i : Instr} (hkind : takesKind i.kind s.st = false) :
    exec i s = .next (rearmed s) :=
  (exec_of_not_takesKind hkind).trans (unexpected_of_ignores h)

/-- Bytes that are no instruction re-arm, unless R208 queues them. -/
theorem badFrame_of_ignores (h : IgnoresUnexpected s.st) {bytes : List Byte}
    (hqueue : ¬ (s.st = .tWaitActCompletion ∧ frameKind bytes = some .depReq)) (why : Reject) :
    badFrame bytes why s = .next (rearmed s) := by
  obtain ⟨hwaits, htarget⟩ := h.waits_target
  unfold badFrame
  split_ifs with hmalformed
  · rw [rfError_of_target hwaits htarget]
    rfl
  · exact unexpected_of_ignores h

theorem takesDeactReq_of_ignores (h : IgnoresUnexpected s.st) : takesDeactReq s.st = true := by
  rcases h with h | h | h <;> rw [h] <;> rfl

/-- A DSL_REQ or RLS_REQ with another DID (R305, R306). -/
theorem exec_deactReq_of_did_ne (h : IgnoresUnexpected s.st) {did : Option Byte} (hne : did ≠ optByte s.did)
    (trail : List Byte) : exec (.dslReq did trail) s = .next (rearmed s) ∧ exec (.rlsReq did trail) s = .next (rearmed s) := by
  have htakes := takesDeactReq_of_ignores h
  have hdid : ¬ didMatch did s = true := by simpa [didMatch] using hne
  rw [exec, exec, execDslReq, execRlsReq, if_pos htakes, if_pos htakes, if_neg hdid, if_neg hdid]
  exact ⟨rfl, rfl⟩

/-- Settles O44: the RF errors by state, the frames by whether the state takes their command. -/
theorem targetIgnoresWhatItCannotUse : Obligations.TargetIgnoresWhatItCannotUse := by
  unfold Obligations.TargetIgnoresWhatItCannotUse
  intro d s
  refine ⟨fun hst => ?_, fun hst => ?_, fun hst => ?_⟩
  · have hside : waitsForRf s.st = true ∧ isTargetSt s.st = true := by
      rcases hst with h | h | h | h <;> rw [h] <;> exact ⟨rfl, rfl⟩
    have herr : ∀ e n, e ≠ .linkLoss →
        step (presenting (.rf (.err e n)) d s) = .next (rearmed { s with actions := [] }) := by
      intro e n he
      rw [step_presenting_err, rfError_of_target (s := { s with actions := [] }) hside.1 hside.2]
      cases e with
      | linkLoss => exact absurd rfl he
      | timeout | transmission => rfl
    refine ⟨fun k n => herr _ n (by simp), fun n => herr _ n (by simp), fun bytes hbad => ?_⟩
    rw [malformedFramesAreTransmissionErrors.2 bytes d s hbad]
    exact herr _ _ (by simp)
  · have hign : IgnoresUnexpected s.st := .inl hst
    constructor
    · intro bytes why hdecode hkind
      rw [step_presenting_ok, receiveFrame_of_error hdecode]
      exact badFrame_of_ignores (s := { s with actions := [] }) hign (fun h => hkind h.2) why
    · intro i hi
      cases i with
      | pslReq did brs fsl =>
        have hdid : did ≠ pslDid s := hi
        rw [exec, execPslReq, if_pos hst, if_neg hdid, ignore_eq_rearmed]
      | dslReq did trail => exact (exec_deactReq_of_did_ne hign hi trail).1
      | rlsReq did trail => exact (exec_deactReq_of_did_ne hign hi trail).2
      | depReqI | depReqAck | depReqNack | depReqAtn | depReqRtox => exact hi.elim
      | _ => exact exec_of_ignores hign (by rw [hst]; rfl)
  · have hign : IgnoresUnexpected s.st := .inr hst
    constructor
    · intro bytes why hdecode
      rw [step_presenting_ok, receiveFrame_of_error hdecode]
      refine badFrame_of_ignores (s := { s with actions := [] }) hign (fun h => ?_) why
      rcases hst with hst | hst <;> exact absurd (hst.symm.trans h.1) (by decide)
    · intro i hi
      cases i with
      | depReqI | depReqAck | depReqNack | depReqAtn | depReqRtox => exact onDepReq_of_header_ne hst hi _ _ _
      | dslReq did trail => exact (exec_deactReq_of_did_ne hign hi trail).1
      | rlsReq did trail => exact (exec_deactReq_of_did_ne hign hi trail).2
      | _ => exact exec_of_ignores hign (by rcases hst with hst | hst <;> rw [hst] <;> rfl)

end Sys2Proof.Machine
end

section
/-! SUPPORT. The response of a Target: more time, and the next block (44_dep_target.md R283, R285). -/

namespace Sys2Proof.Machine

variable {s : State}

theorem raise_of_tRespPending (h : s.st = .tRespPending) (e : Err) : raise e s = .next (raised e .tDepRx s) := by
  rw [raise_eq_raised, h]
  rfl

/-- Settles O45: RTOX_REQ_EN, the counter, then the request. -/
theorem targetRequestsMoreTime : Obligations.TargetRequestsMoreTime := by
  unfold Obligations.TargetRequestsMoreTime
  intro d s hst hrole v f s0
  have hwork : step (presenting .timerExpired d s) = timerExpiry s0 := by
    rw [step_presenting, workOf, if_pos hst]
  have hf : encodeDep .rtox [v] (bump .rtox s0) = f := encodeDep_of_target (s := bump .rtox s0) hrole .rtox [v]
  have hv : rtoxReqValue (bump .rtox s0) = v := rfl
  rw [hwork, timerExpiry, withRetry_eq, raise_of_tRespPending (s := s0) hst, raise_of_tRespPending (s := s0) hst, hv,
    sendDep_rtox hf]
  change _ = if rtoxReqEn s0 = false then _ else _
  cases rtoxReqEn s0 <;> rfl

/-- Where the buffer holds the next block, `T_DEP_TX` transmits it with its MI bit and moves PNI on. -/
theorem sendBlockTarget_of_read {inf : List Byte}
    (hread : s.txBuf.readBytes s.txOff (nextBlockLen s) = some inf) :
    sendBlockTarget s =
      ret .inProgress
        { advancePni
            (sendDep (.info (decide (s.txOff + nextBlockLen s < s.txLen))) inf .noDeadline
              { s with
                txOff := s.txOff + nextBlockLen s
                txChaining := decide (s.txOff + nextBlockLen s < s.txLen) }) with
          st := .tDepRx } := by
  rw [sendBlockTarget, nextBlock_eq_some.2 ⟨hread, rfl, rfl⟩]

/-- Settles O47: the step is the tick of `T_DEP_TX`, which sends the block read and records its frame. -/
theorem targetSendsTheNextBlock : Obligations.TargetSendsTheNextBlock := by
  unfold Obligations.TargetSendsTheNextBlock
  intro inf s hst hrole hread off mi f input d hinput
  have hcmd : ∀ c, input ≠ .cmd c := by
    rintro c rfl
    simp at hinput
  have htick : tick { s with actions := [] } = sendBlockTarget { s with actions := [] } := by
    simp only [tick, hst]
  have hf : encodeDep (.info mi) inf { s with actions := [], txOff := off, txChaining := mi } = f :=
    encodeDep_of_target (s := { s with actions := [], txOff := off, txChaining := mi }) hrole (.info mi) inf
  rw [step_presenting_of_isSendSt (by rw [hst]; rfl) hcmd, htick,
    sendBlockTarget_of_read (s := { s with actions := [] }) hread]
  exact congrArg (fun u => ret .inProgress { advancePni u with st := .tDepRx })
    (sendDep_recorded (by simp) (by simp) hf .noDeadline)

end Sys2Proof.Machine
end

section
/-! SUPPORT. The commands of a session: EXCHANGE in each state (R220, R280, R330, R373), DESELECT and RELEASE (R300,
R301). -/

namespace Sys2Proof.Machine

variable {s : State}

theorem cmdExchange_of_not_taken (hactive : s.st ≠ .iActive) (hpending : s.st ≠ .tRespPending)
    (hrtox : s.st = .tAwaitRtoxRes → s.txPending = true) (data : List Byte) :
    cmdExchange data s = hostError .wrongState s := by
  cases hst : s.st with
  | iActive => exact absurd hst hactive
  | tRespPending => exact absurd hst hpending
  | tAwaitRtoxRes => simp only [cmdExchange, hst, hrtox hst, if_true]
  | _ => simp only [cmdExchange, hst]

theorem cmdExchange_of_tAwaitRtoxRes (h : s.st = .tAwaitRtoxRes) (hfree : ¬ s.txPending = true) (data : List Byte) :
    cmdExchange data s =
      if exchangeOk data s then ret .inProgress (deferExchangeTarget data s) else hostError .badParam s := by
  simp only [cmdExchange, h, if_neg hfree]

/-- The operands are refused past the capacity, and empty where EMPTY_EN is clear. -/
theorem not_exchangeOk_iff {data : List Byte} :
    ¬ exchangeOk data s = true ↔ s.params.txCap < data.length ∨ (data = [] ∧ s.oper.getLsbD 0 = false) := by
  rw [exchangeOk_iff, not_and_or, not_or, Nat.not_le, not_not, Bool.not_eq_true]
  rfl

/-- In a state that takes EXCHANGE the operands decide. -/
theorem ite_exchangeOk {r : Result} (data : List Byte) (s : State) :
    (if exchangeOk data s then r else hostError .badParam s) =
      if s.params.txCap < data.length ∨ (data = [] ∧ s.oper.getLsbD 0 = false) then hostError .badParam s else r := by
  simp only [← not_exchangeOk_iff, ite_not]

/-- Settles O46: WrongState where no state takes it, then the operands, then the state's own start. -/
theorem exchangeStartsWhereTheStateTakesIt : Obligations.ExchangeStartsWhereTheStateTakesIt := by
  unfold Obligations.ExchangeStartsWhereTheStateTakesIt
  intro data d s loaded cleared r
  have hr : r = cmdExchange data { s with actions := [] } := step_presenting_cmd (.exchange data) d s
  rw [hr]
  clear hr r
  by_cases hwrong : s.st ≠ .iActive ∧ s.st ≠ .tRespPending ∧ (s.st = .tAwaitRtoxRes → s.txPending = true)
  · obtain ⟨hactive, hpending, hrtox⟩ := hwrong
    rw [if_pos ⟨hactive, hpending, hrtox⟩]
    exact cmdExchange_of_not_taken (s := { s with actions := [] }) hactive hpending hrtox data
  · rw [if_neg hwrong]
    by_cases hactive : s.st = .iActive
    · rw [cmdExchange_of_iActive (s := { s with actions := [] }) hactive, ite_exchangeOk, if_pos hactive]
      split_ifs <;> rfl
    by_cases hpending : s.st = .tRespPending
    · rw [cmdExchange_of_tRespPending (s := { s with actions := [] }) hpending, ite_exchangeOk, if_neg hactive,
        if_pos hpending]
      split_ifs <;> rfl
    · obtain ⟨hrtox, hfree⟩ : s.st = .tAwaitRtoxRes ∧ ¬ s.txPending = true := by
        simpa [hactive, hpending] using hwrong
      rw [cmdExchange_of_tAwaitRtoxRes (s := { s with actions := [] }) hrtox hfree, ite_exchangeOk, if_neg hactive,
        if_neg hpending]
      split_ifs <;> rfl

/-- Settles O48: the two commands differ in the state they lead to. -/
theorem deactivationCommandsNeedAnActiveSession : Obligations.DeactivationCommandsNeedAnActiveSession := by
  unfold Obligations.DeactivationCommandsNeedAnActiveSession
  intro d s
  exact ⟨step_presenting_cmd .deselect d s, step_presenting_cmd .release d s⟩

end Sys2Proof.Machine
end

section
/-! SUPPORT. The activation and deactivation frames built from the registers, and the default rows of an input that is
no command (40_codec.md R124 to R135, 10_state.md R21, R22). -/

namespace Sys2Proof.Machine

variable {s : State}

/-! ### The bytes built from a register -/

theorem nibbleByte_eq (n : BitVec 4) : nibbleByte n = BitVec.ofNat 8 n.toNat := by
  revert n
  decide

theorem brsByte_eq (s : State) : brsByte s = BitVec.ofNat 8 (9 * s.desiredBr.toNat) := by
  have hcode : ∀ br : BitVec 3, (0 : BitVec 2) ++ br ++ br = BitVec.ofNat 8 (9 * br.toNat) := by decide
  exact hcode s.desiredBr

theorem fslByte_eq (s : State) : fslByte s = BitVec.ofNat 8 s.lr.toNat := by
  have hcode : ∀ lr : BitVec 2, (0 : BitVec 6) ++ lr = BitVec.ofNat 8 lr.toNat := by decide
  exact hcode s.lr

/-- LR in bits 5:4, the GB flag in bit 1, the NAD flag in bit 0 (R93). -/
theorem ppByte_eq (s : State) :
    ppByte s =
      BitVec.ofNat 8 (16 * s.lr.toNat + (if s.gbLocal = [] then 0 else 2) + (if s.nad = 0 then 0 else 1)) := by
  have hbits : ∀ (lr : BitVec 2) (noGb noNad : Bool),
      (0 : BitVec 2) ++ lr ++ (0 : BitVec 2) ++ BitVec.ofBool (!noGb) ++ BitVec.ofBool (!noNad) =
        BitVec.ofNat 8 (16 * lr.toNat + (if noGb then 0 else 2) + (if noNad then 0 else 1)) := by decide
  have h := hbits s.lr s.gbLocal.isEmpty (s.nad == 0)
  simp only [List.isEmpty_iff, beq_iff_eq] at h
  exact h

/-- A deactivation frame as the engine builds it has no trailing bytes (R135). -/
theorem frameOf_did_nil (k : FrameKind) (s : State) : frameOf k ((optByte s.did).toList ++ []) = encodeDeact k s := by
  rw [List.append_nil, encodeDeact]

/-! ### The step on an input a state does not wait for -/

/-- A state that does not wait for `Rf` ticks, unless the timer is its own (R22). -/
theorem workOf_of_not_waiting (h : waitsForRf s.st = false) {input : Input} (hcmd : ∀ c, input ≠ .cmd c)
    (htimer : s.st = .tRespPending → input ≠ .timerExpired) (d : Bool) : (workOf input d s).outcome = tick s := by
  have hpoll : (pollWork s).outcome = tick s := by
    rw [pollWork, if_neg fun hq => by simp [hq.1, waitsForRf] at h]
    rfl
  cases input with
  | poll => exact hpoll
  | cmd c => exact absurd rfl (hcmd c)
  | timerExpired => rwa [workOf_timerExpired_of_ne fun hst => htimer hst rfl]
  | rf r =>
    cases r with
    | ok bytes => exact receiveFrame_of_not_waiting h bytes
    | err e n => exact rfError_of_not_waiting h e n d

/-- A waiting state, with no request queued, ticks on an input that is neither a command nor `Rf`. -/
theorem workOf_of_waiting (h : waitsForRf s.st = true) (hempty : s.st = .tDepRx → s.pendingReq = [])
    {input : Input} (hcmd : ∀ c, input ≠ .cmd c) (hrf : ∀ r, input ≠ .rf r) (d : Bool) :
    (workOf input d s).outcome = tick s := by
  have hpoll : (pollWork s).outcome = tick s := by
    rw [pollWork, if_neg fun hq => hq.2 (hempty hq.1)]
    rfl
  cases input with
  | poll => exact hpoll
  | cmd c => exact absurd rfl (hcmd c)
  | timerExpired => rwa [workOf_timerExpired_of_ne fun hst => by simp [hst, waitsForRf] at h]
  | rf r => exact absurd rfl (hrf r)

theorem not_isSendSt_of_waitsForRf {st : St} (h : waitsForRf st = true) : isSendSt st = false := by
  by_contra hsend
  rw [waitsForRf_of_isSendSt (by simpa using hsend)] at h
  cases h

theorem restStatus_of_waitsForRf {st : St} (h : waitsForRf st = true) : restStatus st = .inProgress := by
  cases st <;> revert h <;> decide

/-- R22 where a command or the timer is awaited, or nothing is. -/
theorem step_presenting_of_resting {input : Input}
    (hst : s.st = .idle ∨ s.st = .iActive ∨ (s.st = .tRespPending ∧ input ≠ .timerExpired) ∨ s.st = .tSleep)
    (hcmd : ∀ c, input ≠ .cmd c) (d : Bool) :
    step (presenting input d s) = .next { s with actions := [], status := .idle } := by
  obtain ⟨hwaits, hsend, hstatus⟩ : waitsForRf s.st = false ∧ isSendSt s.st = false ∧ restStatus s.st = .idle := by
    rcases hst with h | h | ⟨h, -⟩ | h <;> rw [h] <;> exact ⟨rfl, rfl, rfl⟩
  have htimer : s.st = .tRespPending → input ≠ .timerExpired := fun hresp => by simpa [hresp] using hst
  calc step (presenting input d s) = tick { s with actions := [] } :=
        (step_eq_outcome _).trans (workOf_of_not_waiting (s := { s with actions := [] }) hwaits hcmd htimer d)
    _ = ret (restStatus s.st) { s with actions := [] } := tick_of_not_send hsend
    _ = .next { s with actions := [], status := .idle } := by
        rw [hstatus]
        rfl

/-- R22 where a frame is awaited and the input brings none. -/
theorem step_presenting_of_waiting (hwaits : waitsForRf s.st = true) (hempty : s.st = .tDepRx → s.pendingReq = [])
    {input : Input} (hcmd : ∀ c, input ≠ .cmd c) (hrf : ∀ r, input ≠ .rf r) (d : Bool) :
    step (presenting input d s) = .next { s with actions := [], status := .inProgress } := by
  calc step (presenting input d s) = tick { s with actions := [] } :=
        (step_eq_outcome _).trans (workOf_of_waiting (s := { s with actions := [] }) hwaits hempty hcmd hrf d)
    _ = ret (restStatus s.st) { s with actions := [] } := tick_of_not_send (not_isSendSt_of_waitsForRf hwaits)
    _ = .next { s with actions := [], status := .inProgress } := by
        rw [restStatus_of_waitsForRf hwaits]
        rfl

/-- Settles O49: a sending state transmits what its registers encode; any other ticks to the status of its rest. -/
theorem inputsTakeTheirDefaultRow : Obligations.InputsTakeTheirDefaultRow := by
  unfold Obligations.InputsTakeTheirDefaultRow
  intro input d s hinput pp nib dep pslDidByte sent
  have hcmd : ∀ c, input ≠ .cmd c := by
    rintro c rfl
    simp at hinput
  have hsend : isSendSt s.st = true → step (presenting input d s) = tick { s with actions := [] } :=
    fun h => step_presenting_of_isSendSt h hcmd d
  have hnib : ∀ n, nibbleByte n = nib n := nibbleByte_eq
  have hpp : ppByte s = pp := ppByte_eq s
  refine ⟨fun hst => ?_, fun hst => ?_, fun hst => ?_, fun hst => ?_, fun hst => ?_, fun hst => ?_,
    fun hwaits hrf hempty => ?_⟩
  · have hframe : encodeAtrReq s = encode (.atrReq s.nfcid3Local s.did (nib s.ownBs) (nib s.ownBr) pp s.gbLocal) := by
      rw [encodeAtrReq, hnib, hnib, hpp, encode]
    rw [hsend (by rw [hst]; rfl)]
    simp only [tick, hst, sent, ← hframe]
    rfl
  · have hframe : encodePslReq s =
        encode (.pslReq pslDidByte (BitVec.ofNat 8 (9 * s.desiredBr.toNat)) (BitVec.ofNat 8 s.lr.toNat)) := by
      rw [encodePslReq, brsByte_eq, fslByte_eq]
      rfl
    rw [hsend (by rw [hst]; rfl)]
    simp only [tick, hst, sent, ← hframe]
    rfl
  · have hframe : encodeAtrRes s =
        encode (.atrRes s.nfcid3Local s.did (nib s.ownBs) (nib s.ownBr) (nib s.wt) pp s.gbLocal) := by
      rw [encodeAtrRes, hnib, hnib, hnib, hpp, encode]
    rw [hsend (by rw [hst]; rfl)]
    simp only [tick, hst, sent, ← hframe, ← minLr_eq_ofNat]
    rfl
  · have hframe : encode (.dslReq (optByte s.did) []) = encodeDeact .dslReq s := frameOf_did_nil .dslReq s
    rw [hsend (by rw [hst]; rfl)]
    simp only [tick, hst, sent, hframe]
    rfl
  · have hframe : encode (.rlsReq (optByte s.did) []) = encodeDeact .rlsReq s := frameOf_did_nil .rlsReq s
    rw [hsend (by rw [hst]; rfl)]
    simp only [tick, hst, sent, hframe]
    rfl
  · exact step_presenting_of_resting hst hcmd d
  · exact step_presenting_of_waiting hwaits hempty hcmd hrf d

end Sys2Proof.Machine
end

section
/-! SUPPORT. Deactivation, and the errors: the frames that end a session (45_deactivation.md R303 to R308), terminal
entry (60_exceptions.md R340, R341), RF errors by state. -/

namespace Sys2Proof.Machine

variable {s : State}

theorem didMatch_session (s : State) : didMatch (optByte s.did) s = true := by
  simp [didMatch]

/-! ### DSL and RLS -/

/-- Settles O50: the three states take both requests, and the DID is the session's. -/
theorem deactivationRequestsCloseTheTarget : Obligations.DeactivationRequestsCloseTheTarget := by
  unfold Obligations.DeactivationRequestsCloseTheTarget
  intro trail s hst closed
  have htakes : takesDeactReq s.st = true := takesDeactReq_of_ignores hst
  have hdsl : encode (.dslRes (optByte s.did) []) = encodeDeact .dslRes s := frameOf_did_nil .dslRes s
  have hrls : encode (.rlsRes (optByte s.did) []) = encodeDeact .rlsRes s := frameOf_did_nil .rlsRes s
  constructor
  · rw [exec, execDslReq, if_pos htakes, if_pos (didMatch_session s), hdsl]
    rfl
  · rw [exec, execRlsReq, if_pos htakes, if_pos (didMatch_session s), hrls]
    rfl

theorem raisesUnexpected_of_iAwaitDslRes (h : s.st = .iAwaitDslRes) : RaisesUnexpected s.st :=
  h ▸ ⟨rfl, .inl rfl⟩

theorem raisesUnexpected_of_iAwaitRlsRes (h : s.st = .iAwaitRlsRes) : RaisesUnexpected s.st :=
  h ▸ ⟨rfl, .inl rfl⟩

/-- In `I_AWAIT_DSL_RES` every frame but the DSL_RES of the session is a ProtocolError (R307). -/
theorem exec_iAwaitDslRes_of_ne (h : s.st = .iAwaitDslRes) {i : Instr}
    (hne : ∀ trail, i ≠ .dslRes (optByte s.did) trail) : exec i s = raise .protocolError s := by
  cases i with
  | dslRes did trail =>
    have hdid : ¬ didMatch did s = true := fun hmatch => hne trail (by rw [beq_iff_eq.1 hmatch])
    rw [exec, execDslRes, if_pos h, if_neg hdid]
  | _ => exact exec_of_raises (raisesUnexpected_of_iAwaitDslRes h) (by rw [h]; rfl)

/-- In `I_AWAIT_RLS_RES` every frame but the RLS_RES of the session is a ProtocolError (R307). -/
theorem exec_iAwaitRlsRes_of_ne (h : s.st = .iAwaitRlsRes) {i : Instr}
    (hne : ∀ trail, i ≠ .rlsRes (optByte s.did) trail) : exec i s = raise .protocolError s := by
  cases i with
  | rlsRes did trail =>
    have hdid : ¬ didMatch did s = true := fun hmatch => hne trail (by rw [beq_iff_eq.1 hmatch])
    rw [exec, execRlsRes, if_pos h, if_neg hdid]
  | _ => exact exec_of_raises (raisesUnexpected_of_iAwaitRlsRes h) (by rw [h]; rfl)

/-- Settles O51: the response with the session's DID closes; every other frame is raised on and lands in `I_ACTIVE`. -/
theorem deactivationResponsesEndTheSession : Obligations.DeactivationResponsesEndTheSession := by
  unfold Obligations.DeactivationResponsesEndTheSession
  intro d s
  refine ⟨fun hst => ⟨fun trail => ?_, fun bytes hlen hne => ?_⟩, fun hst => ⟨fun trail => ?_, fun bytes hlen hne => ?_⟩⟩
  · rw [exec, execDslRes, if_pos hst, if_pos (didMatch_session s)]
    rfl
  · rw [step_of_unaccepted (raisesUnexpected_of_iAwaitDslRes hst) hlen, hst]
    · rfl
    · intro i hdecode
      exact exec_iAwaitDslRes_of_ne (s := { s with actions := [] }) hst fun trail hi => hne trail (hi ▸ hdecode)
  · rw [exec, execRlsRes, if_pos hst, if_pos (didMatch_session s)]
    rfl
  · rw [step_of_unaccepted (raisesUnexpected_of_iAwaitRlsRes hst) hlen, hst]
    · rfl
    · intro i hdecode
      exact exec_iAwaitRlsRes_of_ne (s := { s with actions := [] }) hst fun trail hi => hne trail (hi ▸ hdecode)

/-! ### Terminal entry -/

/-- Settles O52: `raise` is `raised` at the landing, and the landings are R341's table. -/
theorem raiseLandsByTheTable : Obligations.RaiseLandsByTheTable := by
  unfold Obligations.RaiseLandsByTheTable
  exact ⟨raise_eq_raised, by decide, by decide, by decide⟩

/-! ### RF errors -/

/-- Every waiting state raises LinkLoss (R186, R224, R262, R307). -/
theorem rfError_linkLoss (h : waitsForRf s.st = true) (n : Nat) (d : Bool) :
    rfError .linkLoss n d s = raise .linkLoss s := by
  cases hst : s.st with
  | idle | iSendAtr | iSendPsl | iActive | iDepTx | iSendDsl | iSendRls | tSendAtrRes | tRespPending | tDepTx | tSleep =>
    simp [hst, waitsForRf] at h
  | _ => simp only [rfError, hst, targetRfError, rfErrAsErr]

/-- A deactivation raises every RF error (R307), and the session stays. -/
theorem rfError_of_deactivating (h : s.st = .iAwaitDslRes ∨ s.st = .iAwaitRlsRes) (e : RfErr) (n : Nat) (d : Bool) :
    rfError e n d s = .next (raised (rfErrAsErr e) .iActive s) := by
  rcases h with h | h <;> simp only [rfError, h, raise_eq_raised, landing]

/-- A retry as the test that its counter allows one. -/
theorem withRetry_eq_ite_lt (c : Counter) (exhausted allowed : State → Result) (s : State) :
    withRetry c exhausted allowed s =
      if counterOf c s < ceilingOf c s.params then allowed (bump c s) else exhausted s := by
  simp only [withRetry_eq, ← Nat.not_lt, ite_not]

theorem rfError_transmission_of_iAwaitAtrRes (h : s.st = .iAwaitAtrRes) (k : TxErr) (n : Nat) (d : Bool) :
    rfError (.transmission k) n d s =
      if s.atrRetries < 2 then
        .next { s with atrRetries := s.atrRetries + 1, st := .iSendAtr, status := .inProgress }
      else .next (raised (.transmission k) .idle s) := by
  have hland : raise (.transmission k) s = .next (raised (.transmission k) .idle s) := by
    rw [raise_eq_raised, h]
    rfl
  have hretry : rfError (.transmission k) n d s = retryAtr k s := by simp only [rfError, h]
  rw [hretry, retryAtr, withRetry_eq_ite_lt, hland]
  rfl

theorem rfError_transmission_of_iAwaitPslRes (h : s.st = .iAwaitPslRes) (k : TxErr) (n : Nat) (d : Bool) :
    rfError (.transmission k) n d s =
      if s.pslRetries < s.params.pslRetryMax then
        .next { s with pslRetries := s.pslRetries + 1, st := .iSendPsl, status := .inProgress }
      else .next (raised (.transmission k) .idle s) := by
  have hland : raise (.transmission k) s = .next (raised (.transmission k) .idle s) := by
    rw [raise_eq_raised, h]
    rfl
  have hretry : rfError (.transmission k) n d s = retryPsl k s := by simp only [rfError, h]
  rw [hretry, retryPsl, withRetry_eq_ite_lt, hland]
  rfl

/-- An activation that waits for a response raises a Timeout (R185, R192). -/
theorem rfError_timeout_of_activating (h : s.st = .iAwaitAtrRes ∨ s.st = .iAwaitPslRes) (n : Nat) (d : Bool) :
    rfError .timeout n d s = .next (raised .timeout .idle s) := by
  rcases h with h | h <;> simp only [rfError, h, raise_eq_raised, landing]

/-- Settles O53: what `rfError` does in each waiting state outside the data exchange. -/
theorem rfErrorsSurfaceOrRetry : Obligations.RfErrorsSurfaceOrRetry := by
  unfold Obligations.RfErrorsSurfaceOrRetry
  intro n d s s0
  simp only [step_presenting_err]
  refine ⟨fun hwaits => ?_, fun hst => ?_, fun hst => ?_, fun hst => ?_⟩
  · exact (rfError_linkLoss (s := s0) hwaits n d).trans (raise_eq_raised _ _)
  · exact ⟨rfError_timeout_of_activating (s := s0) (.inl hst) n d,
      fun k => rfError_transmission_of_iAwaitAtrRes (s := s0) hst k n d⟩
  · exact ⟨rfError_timeout_of_activating (s := s0) (.inr hst) n d,
      fun k => rfError_transmission_of_iAwaitPslRes (s := s0) hst k n d⟩
  · exact ⟨rfError_of_deactivating (s := s0) hst .timeout n d,
      fun k => rfError_of_deactivating (s := s0) hst (.transmission k) n d⟩

end Sys2Proof.Machine
end
